-- ==== Sys2Proof/Word.lean ====
section
/-!
DEFINITION. The word types of the CV4210 and their plainest arithmetic: the byte, the 32-bit time base (R1), and
the fixed-size tables in which the part keeps like records.
-/

namespace Sys2Proof

/-- A byte of either serial link (R138, R173). -/
abbrev Byte := BitVec 8

/-- A time on the free-running 1 ms time base, a 32-bit count that returns to 0 after 2³² − 1 (R1). -/
abbrev Time := BitVec 32

/-- The time `ms` milliseconds after `t`: every expiry time and due time is formed modulo 2³² (R1). -/
def after (t : Time) (ms : Nat) : Time := t + BitVec.ofNat 32 ms

/-- The difference of two times in milliseconds, taken modulo 2³² (R1): the age at `now` of something that
happened at `t`. -/
def elapsed (now t : Time) : Nat := (now - t).toNat

/-- A time `t` is reached when `now − t`, taken modulo 2³², is below 2³¹ (R1). -/
def reached (now t : Time) : Bool := decide (elapsed now t < 2 ^ 31)

/-- An optional timer has expired: it runs, and its expiry time is reached (R1). -/
def expired (now : Time) (timer : Option Time) : Bool :=
  match timer with
  | some t => reached now t
  | none => false

/-- clamp(x, lo, hi) of the Introduction (R1), on natural numbers. -/
def clampNat (x lo hi : Nat) : Nat := if x < lo then lo else if hi < x then hi else x

/-- clamp(x, lo, hi) of the Introduction (R1), on integers. -/
def clampInt (x lo hi : Int) : Int := if x < lo then lo else if hi < x then hi else x

/-! A table is a `Vector`: as many entries as the part has records of that kind. -/

/-- Entry `i` of a table. -/
def tget {α : Type} {n : Nat} (t : Vector α n) (i : Fin n) : α := t[i.val]'i.isLt

/-- The table with entry `i` replaced. -/
def tset {α : Type} {n : Nat} (t : Vector α n) (i : Fin n) (x : α) : Vector α n := t.set i.val x i.isLt

/-- The table with every entry replaced by a function of its number and its old value. -/
def tmap {α β : Type} {n : Nat} (f : Fin n → α → β) (t : Vector α n) : Vector β n :=
  Vector.ofFn fun i => f i (tget t i)

@[simp] theorem tget_tset_self {α : Type} {n : Nat} (t : Vector α n) (i : Fin n) (x : α) :
    tget (tset t i x) i = x := by
  simp [tget, tset]

theorem tget_tset {α : Type} {n : Nat} (t : Vector α n) (i j : Fin n) (x : α) :
    tget (tset t i x) j = if j = i then x else tget t j := by
  by_cases h : j = i
  · subst h; simp
  · have h' : ¬ i.val = j.val := fun e => h (Fin.ext e.symm)
    simp [tget, tset, h, h']

theorem tget_tset_ne {α : Type} {n : Nat} (t : Vector α n) {i j : Fin n} (x : α) (h : j ≠ i) :
    tget (tset t i x) j = tget t j := by
  simp [tget_tset, h]

@[simp] theorem tget_tmap {α β : Type} {n : Nat} (f : Fin n → α → β) (t : Vector α n) (i : Fin n) :
    tget (tmap f t) i = f i (tget t i) := by
  simp [tget, tmap]

@[simp] theorem tget_replicate {α : Type} {n : Nat} (x : α) (i : Fin n) :
    tget (Vector.replicate n x) i = x := by
  simp [tget]

/-- Two tables with the same entries are the same table. -/
theorem table_ext {α : Type} {n : Nat} {t u : Vector α n} (h : ∀ i, tget t i = tget u i) : t = u := by
  apply Vector.ext
  intro i hi
  exact h ⟨i, hi⟩

/-- Writing back the entry that is there changes nothing. -/
@[simp] theorem tset_tget_self {α : Type} {n : Nat} (t : Vector α n) (i : Fin n) :
    tset t i (tget t i) = t := by
  apply table_ext
  intro j
  rw [tget_tset]
  split
  · next h => rw [h]
  · rfl

@[simp] theorem tset_tset_self {α : Type} {n : Nat} (t : Vector α n) (i : Fin n) (x y : α) :
    tset (tset t i x) i y = tset t i y := by
  apply table_ext
  intro j
  simp only [tget_tset]
  split <;> rfl

end Sys2Proof
end

