-- ==== Sys2Proof/Config.lean ====
section
/-!
DEFINITION. What the silicon fixes (R180, Chapter 8, Chapter 3, Chapter 9) and the free values: answer bytes whose
value the manual does not state. A free value is an opaque constant: no proof can see what it is.
-/

namespace Sys2Proof.Config

/-- The recovery interval of a LOST or BUSY_HALTED station, 1,000 ms (R145). -/
def recoveryInterval : Nat := 1000

/-- The enrol timer's duration, 5,000 ms (R43). -/
def enrolTimeout : Nat := 5000

/-- The start timer's duration, 3,000 ms (R43). -/
def startTimeout : Nat := 3000

/-- The stop timer's duration, 60,000 ms (R43). -/
def stopTimeout : Nat := 60000

/-- The period of the wind sample timer, 250 ms (R155). -/
def samplePeriod : Nat := 250

/-- The rain conditioning times, on after 2,000 ms and off after 60,000 ms (R166). -/
def rainOnTime : Nat := 2000
/-- See `rainOnTime` (R166). -/
def rainOffTime : Nat := 60000

/-- The chain conditioning times, open after 5 ms and closed after 100 ms (R169). -/
def chainOpenTime : Nat := 5
/-- See `chainOpenTime` (R169). -/
def chainCloseTime : Nat := 100

/-- The cursor's stride, 37 (R102). -/
def stride : Nat := 37

/-- The largest magnitude of a reported speed in the zero band, 2 mm/s (R55). -/
def zeroBand : Nat := 2

/-- FREE VALUE (log entry 14). The brake-state byte in the REFUSED_STATE answer of R60 check 5 for a station that has
no latest report: the rule asks for "its brake state" and the station has reported none. -/
opaque freeBrakeByte : BitVec 8

/-- FREE VALUE (log entry 15). The expected-length byte of a BAD_REQUEST answer to DEFINE_TRACK where the manual's
5 + 2n is no value of one byte (`some n`), or where the body is too short to carry a count (`none`) (R176, R178). -/
opaque freeExpectedLength : Option Nat → BitVec 8

end Sys2Proof.Config
end

