-- ==== Sys2Proof/Syntax.lean ====
section
/-!
DEFINITION. The commands of the CV4210: one constructor for each row of spec/opcode_table.json, with the operands the
governing rule gives it. A request's operands are the numbers its body carries (R181), not yet judged; an event's
operands are what the outside world brings with it (a pin level, the bytes of a frame).
-/

namespace Sys2Proof

/-- A mover number, 0 to 11 (R37). -/
abbrev MoverNo := Fin 12
/-- A station's row in the Station Table: station address minus 1 (addresses are 1 to 32, R118). -/
abbrev StationNo := Fin 32
/-- A track number, 0 to 3 (R2). -/
abbrev TrackNo := Fin 4
/-- An anemometer channel, W0 to W2 (R153). -/
abbrev ChannelNo := Fin 3

/-- The configuration operands of CONFIGURE_MOVER as the body carries them, in the order of R37 (R181). -/
structure RawConfig where
  track : Nat
  plusExtent : Nat
  minusExtent : Nat
  vMax : Nat
  accel : Nat
  brake : Nat
  standoff : Nat
  tolerance : Nat
  creep : Nat
  gain : Nat
  trimLimit : Nat
  skewLimit : Nat
  resume : Nat
  dwell : Nat
  permit : Nat
  wind : Nat
  exempt : Nat
  deriving DecidableEq, Repr

/-- The wind settings of R154, in the order of SET_WIND's body (R181). The same record holds the settings the Wind
Unit keeps. -/
structure WindSettings where
  scale0 : Nat
  scale1 : Nat
  scale2 : Nat
  window : Nat
  breezyQ : Nat
  strongQ : Nat
  strongGust : Nat
  stormQ : Nat
  stormGust : Nat
  hysteresis : Nat
  deriving DecidableEq, Repr

/-- The reason of a BAD_REQUEST answer: an unknown request code, or a body of the wrong length with the expected length
byte (R176, R177). -/
inductive BadReason where
  | unknownCode
  | length (expected : BitVec 8)
  deriving DecidableEq, Repr

/-- A byte as the supervisory receiver sees it on the line: its value, and whether its stop bit was low, a byte error
(R173). -/
structure LineByte where
  value : Byte
  error : Bool
  deriving DecidableEq, Repr

/-- A command of the part, a row of spec/opcode_table.json. -/
inductive Instr where
  /-- FULL_RESET (R179). -/
  | fullReset
  /-- FRAME_RECEIVED (R174): the bytes that reached the receiver since the last of its events, and the one that ends them, the last
  CRC byte of a frame that is received. -/
  | frameReceived (line : List LineByte) (last : LineByte)
  /-- FRAME_LENGTH_DROP (R174): the bytes that reached the receiver since the last of its events, the length byte last. -/
  | frameLengthDrop (line : List LineByte)
  /-- FRAME_GAP_TIMEOUT (R174): the gap after the bytes that have reached the receiver. -/
  | frameGapTimeout
  /-- ANSWER_SENT (R176). -/
  | answerSent
  /-- DEFINE_TRACK (R5 to R7): track, start position, segment count, segment lengths. -/
  | defineTrack (track start count : Nat) (lengths : List Nat)
  /-- REMOVE_TRACK (R8). -/
  | removeTrack (track : Nat)
  /-- QUERY_TRACK (R17). -/
  | queryTrack (track : Nat)
  /-- BLOCK_SEGMENT (R14, R15): table index. -/
  | blockSegment (index : Nat)
  /-- UNBLOCK_SEGMENT (R14, R16): table index. -/
  | unblockSegment (index : Nat)
  /-- QUERY_SEGMENT (R18): table index. -/
  | querySegment (index : Nat)
  /-- RESERVE (R22 to R24): mover, end code, count. -/
  | reserve (mover endCode count : Nat)
  /-- RELEASE (R25 to R27): mover, end code, count. -/
  | release (mover endCode count : Nat)
  /-- CONFIGURE_MOVER (R38). -/
  | configureMover (mover : Nat) (cfg : RawConfig)
  /-- UNLOCK (R45, R46). -/
  | unlock (mover : Nat)
  /-- LOCK (R64). -/
  | lock (mover : Nat)
  /-- MOVE (R61, R62): mover, target, profile speed. -/
  | move (mover target profile : Nat)
  /-- STOP (R63). -/
  | stop (mover : Nat)
  /-- STOP_ALL (R63). -/
  | stopAll
  /-- RESET_FAULT (R60). -/
  | resetFault (mover : Nat)
  /-- QUERY_MOVER (R68). -/
  | queryMover (mover : Nat)
  /-- ASSIGN_STATION (R119, R120): address, mover, role code, offset, poll interval, busy exponent. -/
  | assignStation (address mover role : Nat) (offset : Int) (poll busyExp : Nat)
  /-- UNASSIGN_STATION (R121). -/
  | unassignStation (address : Nat)
  /-- QUERY_STATION (R132): address, view code. -/
  | queryStation (address view : Nat)
  /-- SET_ADMISSION (R78). -/
  | setAdmission (limit : Nat)
  /-- QUERY_QUEUE (R79). -/
  | queryQueue
  /-- SET_PROVING (R115): interval, stale limit. -/
  | setProving (interval stale : Nat)
  /-- QUERY_PROVING (R116). -/
  | queryProving
  /-- SET_WIND (R164). -/
  | setWind (settings : WindSettings)
  /-- QUERY_WIND (R165). -/
  | queryWind
  /-- QUERY_ALERTS (R172). -/
  | queryAlerts
  /-- ACK_ALERTS (R170): the alert-set byte of Table 11-3. -/
  | ackAlerts (set : Nat)
  /-- IDENTIFY (R180). -/
  | identify
  /-- TRANSACTION_START (R148, R149). -/
  | transactionStart
  /-- BROADCAST_HOLD_START (R150). -/
  | broadcastHoldStart
  /-- BROADCAST_HOLD_END (R136). -/
  | broadcastHoldEnd
  /-- FIELD_ANSWER_RECEIVED (R135, R140): the bytes received in the answer window. -/
  | fieldAnswerReceived (bytes : List Byte)
  /-- ANSWER_BREAK (R135). -/
  | answerBreak
  /-- ANSWER_WINDOW_CLOSED (R135). -/
  | answerWindowClosed
  /-- PROVING_TIMER_EXPIRY (R101). -/
  | provingTimerExpiry
  /-- CONSISTENT_FINDING (R32): the table index the arriving finding is on. -/
  | consistentFinding (index : Nat)
  /-- INCONSISTENT_FINDING (R32): the table index the arriving finding is on. -/
  | inconsistentFinding (index : Nat)
  /-- TRAILING_RELEASE (R33): the table index the arriving request is for. -/
  | trailingRelease (index : Nat)
  /-- INTRUSION_NOTICE (R65): the mover the arriving notice names. -/
  | intrusionNotice (mover : MoverNo)
  /-- ENROL_TIMER_EXPIRY (R43, R48). -/
  | enrolTimerExpiry (mover : MoverNo)
  /-- START_TIMER_EXPIRY (R43). -/
  | startTimerExpiry (mover : MoverNo)
  /-- PERMIT_TIMER_EXPIRY (R56). -/
  | permitTimerExpiry (mover : MoverNo)
  /-- DWELL_TIMER_EXPIRY (R55). -/
  | dwellTimerExpiry (mover : MoverNo)
  /-- STOP_TIMER_EXPIRY (R58). -/
  | stopTimerExpiry (mover : MoverNo)
  /-- ANEMOMETER_PULSE (R155). -/
  | anemometerPulse (channel : ChannelNo)
  /-- WIND_SAMPLE (R155): one channel's sample, with its status line as it stands then. -/
  | windSample (channel : ChannelNo) (statusHigh : Bool)
  /-- RAIN_INPUT_CHANGE (R166): the new level. -/
  | rainInputChange (high : Bool)
  /-- RAIN_ON_EXPIRY (R166). -/
  | rainOnExpiry
  /-- RAIN_OFF_EXPIRY (R166). -/
  | rainOffExpiry
  /-- ESTOP_INPUT_CHANGE (R169): the new level. -/
  | estopInputChange (high : Bool)
  /-- CHAIN_OPEN (R169, R171). -/
  | chainOpen
  /-- CHAIN_CLOSED (R169, R171). -/
  | chainClosed
  /-- OPENING_NOTICE_MOVERS (R66). -/
  | openingNoticeMovers
  /-- OPENING_NOTICE_FIELD_LINK (R150). -/
  | openingNoticeFieldLink
  /-- COMMAND_FRAME_END (R135). -/
  | commandFrameEnd
  /-- RESET_INPUT_RELEASED (R179). -/
  | resetInputReleased
  deriving DecidableEq, Repr

end Sys2Proof
end

