-- ==== Sys2Proof/Machine/State.lean ====
section
/-!
DEFINITION. The state of the CV4210, block by block (section 0.3), as plain data, and its value after full reset.
-/

namespace Sys2Proof.Machine

open Sys2Proof

/-! ### Layout Table and the segment records -/

/-- A segment record: its length (R2) and its hold state (R12). It exists as long as its track's definition does. -/
structure Seg where
  /-- length in mm -/
  len : Nat
  /-- the mover that holds it, or absent -/
  holder : Option MoverNo
  blocked : Bool
  suspect : Bool
  /-- proven-at, or absent -/
  proven : Option Time
  deriving DecidableEq, Repr

/-- A defined track (R2): its segments in place order. Place i has table index `base + i` (R3). `serial` is the
identity of this definition's segment records, which R100 and R106 compare. -/
structure Track where
  start : Nat
  base : Nat
  serial : Nat
  segs : List Seg
  deriving DecidableEq, Repr

/-- A non-empty hold run: its low and high place (R19). -/
structure Run where
  low : Nat
  high : Nat
  deriving DecidableEq, Repr

/-! ### Mover records -/

/-- A direction of travel (R1, R20). -/
inductive Dir where
  | plus
  | minus
  deriving DecidableEq, Repr

/-- A mover's configuration (R37). `wind` is the set of selected channels, bit i for channel Wi (R181). -/
structure MoverConfig where
  track : TrackNo
  plusExtent : Nat
  minusExtent : Nat
  vMax : Nat
  accel : Nat
  brake : Nat
  standoff : Nat
  tolerance : Nat
  creep : Nat
  gain : Nat
  trimLimit : Nat
  skewLimit : Nat
  resume : Nat
  dwell : Nat
  permit : Nat
  wind : Nat
  exempt : Bool
  deriving DecidableEq, Repr

/-- The nine mover states (Table 3-1). -/
inductive MState where
  | lockedOut
  | enrolling
  | parked
  | queued
  | starting
  | moving
  | held
  | stopping
  | faulted
  deriving DecidableEq, Repr

/-- The fault codes (R59). -/
inductive FaultCode where
  | estop
  | overrun
  | intrusion
  | skew
  | stationFault
  | stationLost
  | busyTimeout
  | startTimeout
  | stopTimeout
  | permitExpired
  deriving DecidableEq, Repr

/-- The stop reasons (R39, R57, R59). -/
inductive StopReason where
  | arrived
  | stopRequest
  | wind
  | authority
  | fault (code : FaultCode)
  deriving DecidableEq, Repr

/-- The enrol results (R48); FOOTPRINT carries a table index. -/
inductive EnrolResult where
  | ok
  | capability
  | brakeState
  | position
  | footprint (index : Nat)
  | station
  | estop
  | aborted
  | timeout
  deriving DecidableEq, Repr

/-- The stopping phases (R57). -/
inductive Phase where
  | rundown
  | braking
  deriving DecidableEq, Repr

/-- A mover record: state, configuration (R37) and run-time fields (R39). -/
structure Mover where
  state : MState
  config : Option MoverConfig
  target : Option Nat
  profile : Option Nat
  dir : Dir
  reference : Option Int
  leadTime : Option Time
  /-- commanded velocity V -/
  velocity : Int
  /-- previous commanded speed -/
  prevSpeed : Nat
  /-- time of the previous commanded speed -/
  prevTime : Option Time
  stopReason : Option StopReason
  phase : Option Phase
  fault : Option FaultCode
  enrol : Option EnrolResult
  /-- the progress set, in address order -/
  progress : List StationNo
  enrolTimer : Option Time
  startTimer : Option Time
  permitTimer : Option Time
  dwellTimer : Option Time
  stopTimer : Option Time
  deriving DecidableEq, Repr

/-! ### Admission Arbiter -/

/-- A start queue entry (R71). -/
structure QueueEntry where
  mover : MoverNo
  since : Time
  deriving DecidableEq, Repr

/-- The Admission Arbiter (R69 to R71); the queue stands head first. -/
structure Arbiter where
  limit : Nat
  count : Nat
  queue : List QueueEntry
  deriving DecidableEq, Repr

/-! ### Station Table -/

/-- The station roles (7.1). -/
inductive Role where
  | lead
  | follow
  | brake
  deriving DecidableEq, Repr

/-- The capabilities a station reports; unknown is the absent value (R118). -/
inductive Capability where
  | driveBrake
  | brakeOnly
  deriving DecidableEq, Repr

/-- A station's report of its brakes (R137). -/
inductive Brake where
  | applied
  | released
  | transit
  deriving DecidableEq, Repr

/-- The station states (7.4). -/
inductive StState where
  | dormant
  | active
  | busyHalted
  | lost
  deriving DecidableEq, Repr

/-- A command to one station: its kind, with speed and release flag for DRIVE (R118, R136). -/
inductive Command where
  | sample
  | hold
  | ident
  | drive (speed : Int) (release : Bool)
  deriving DecidableEq, Repr

/-- The assignment fields of a station record (R118). -/
structure Assignment where
  mover : MoverNo
  role : Role
  offset : Int
  poll : Nat
  busyExp : Nat
  deriving DecidableEq, Repr

/-- A filed report (R118, R129): position absent when unknown, capability present in an answer to IDENT. -/
structure Report where
  position : Option Nat
  speed : Int
  brake : Brake
  faultCode : Nat
  capability : Option Capability
  arrival : Time
  deriving DecidableEq, Repr

/-- A station record (R118). -/
structure Station where
  assign : Option Assignment
  /-- absent stands for unknown -/
  capability : Option Capability
  generation : BitVec 8
  state : StState
  report : Option Report
  /-- absent stands for none -/
  standing : Option Command
  urgent : Bool
  lastSent : Option (Command × Time)
  /-- retained trim -/
  trim : Int
  deriving DecidableEq, Repr

/-! ### Field Link Master -/

/-- The link state of one station (R134). A pending retry keeps its command and its sequence bit. -/
structure Link where
  seq : Bool
  attempts : Nat
  busy : Nat
  due : Option Time
  retry : Option (Command × Bool)
  priority : Bool
  deriving DecidableEq, Repr

/-- The transaction in flight (R134); `priority` is its mark as carrying the station's priority request. -/
structure Transaction where
  station : StationNo
  command : Command
  seq : Bool
  generation : BitVec 8
  priority : Bool
  deriving DecidableEq, Repr

/-- The field line: idle, a command frame being sent, its answer window open, or the broadcast HOLD being sent
(R134 to R136). The bytes are those the part puts on the line. -/
inductive Line where
  | idle
  | command (bytes : List Byte)
  | window
  | broadcast (bytes : List Byte)
  deriving DecidableEq, Repr

/-- The Field Link Master (R134). -/
structure FieldLink where
  links : Vector Link 32
  broadcast : Bool
  inFlight : Option Transaction
  line : Line
  deriving DecidableEq, Repr

/-! ### Proving Unit -/

/-- The pending step (R100). -/
structure PendingStep where
  index : Nat
  serial : Nat
  awaited : StationNo
  since : Time
  deriving DecidableEq, Repr

/-- The Proving Unit (R100). -/
structure Proving where
  interval : Nat
  stale : Nat
  /-- the proving timer's expiry time -/
  expiry : Time
  cursor : Nat
  step : Option PendingStep
  last : Option Time
  deriving DecidableEq, Repr

/-- A message on its way from the Proving Unit to the Reservation Unit (R32, R33, R109): a finding on a table index,
with the identity of the record it is on, or a trailing release request. -/
inductive SweepMessage where
  | consistent (index serial : Nat) (time : Time)
  | inconsistent (index serial : Nat)
  | trailing (index : Nat) (holder : MoverNo)
  deriving DecidableEq, Repr

/-! ### Wind Unit -/

/-- The wind classes, ordered CALM to STORM (R153). -/
inductive WindClass where
  | calm
  | breezy
  | strong
  | storm
  deriving DecidableEq, Repr

/-- A channel's class: a wind class, or DEAD, which stands outside the order (R153). -/
inductive ChannelClass where
  | live (c : WindClass)
  | dead
  deriving DecidableEq, Repr

/-- The statistics of a completed window (R158). -/
structure WindStats where
  mean : Nat
  qmean : Nat
  min : Nat
  max : Nat
  deriving DecidableEq, Repr

/-- An anemometer channel record (R153). `due` is the expiry of the sample timer at which the channel takes its next
sample (R155), and `statusPin` its status line as last read. -/
structure Channel where
  pulses : Nat
  raw : Option Nat
  dead : Bool
  cls : ChannelClass
  provisional : Bool
  gustTrip : Bool
  samples : Nat
  sum : Nat
  sumSq : Nat
  winMin : Option Nat
  winMax : Option Nat
  gustSeen : Bool
  available : Bool
  stats : Option WindStats
  due : Time
  statusPin : Bool
  deriving DecidableEq, Repr

/-- The Wind Unit (R153, R154). -/
structure WindUnit where
  channels : Vector Channel 3
  settings : WindSettings
  deriving DecidableEq, Repr

/-! ### Alert Unit -/

/-- The two flags of an alert (R167). -/
structure AlertFlags where
  active : Bool
  latched : Bool
  deriving DecidableEq, Repr

/-- The eight alerts, in the order of Table 11-3 (R167). -/
inductive AlertName where
  | gust
  | storm
  | rain
  | sensor
  | estop
  | intrusion
  | station
  | moverFault
  deriving DecidableEq, Repr

/-- The alert records (R167). -/
structure Alerts where
  gust : AlertFlags
  storm : AlertFlags
  rain : AlertFlags
  sensor : AlertFlags
  estop : AlertFlags
  intrusion : AlertFlags
  station : AlertFlags
  moverFault : AlertFlags
  deriving DecidableEq, Repr

/-- The conditioned inputs (R166, R169) with their input levels, and the last opening (R172). -/
structure Inputs where
  rainPin : Bool
  rainActive : Bool
  rainTimer : Option Time
  estopPin : Bool
  chainOpen : Bool
  chainTimer : Option Time
  lastOpening : Option Time
  deriving DecidableEq, Repr

/-! ### Supervisory Port -/

/-- A received request frame (R173). -/
structure Frame where
  tag : Byte
  code : Byte
  body : List Byte
  deriving DecidableEq, Repr

/-- The receiver is hunting or in a frame (R174): in a frame it has the bytes of the frame so far, start byte first, and whether a
byte error has spoiled it. -/
inductive Receiver where
  | hunting
  | inFrame (got : List Byte) (spoiled : Bool)
  deriving DecidableEq, Repr

/-- The Supervisory Port (R174 to R176): the port is answering while an answer frame is being sent, and idle
otherwise. -/
structure Port where
  receiver : Receiver
  buffer : List Frame
  sending : Option (List Byte)
  deriving DecidableEq, Repr

/-- The statuses of Table 11-1 (R177). -/
inductive Status where
  | ok
  | partialGrant
  | done
  | refusedState
  | refusedRange
  | refusedConflict
  | refusedWind
  | refusedEstop
  | refusedConfig
  | refusedDirection
  | inUse
  | noRoom
  | badRequest
  deriving DecidableEq, Repr

/-- A number of an answer body and the bytes it takes (R178). -/
structure Item where
  size : Nat
  value : Int
  deriving DecidableEq, Repr

/-- An answer as the owning block returns it to the port: the echoed request code, the status and the answer items
after the echoed code (R177). -/
structure Answer where
  code : Byte
  status : Status
  items : List Item
  deriving DecidableEq, Repr

/-! ### The whole part -/

/-- The state of the CV4210. `serial`, `toReservation`, `toMovers`, `openingsMovers`, `openingsFieldLink` and `answer`
are the model's own: the next identity of a track definition, the messages that are sent and not yet taken (R109,
R171), and the answer a block last returned to the port. `pending` is the queue of waiting commands. -/
structure State where
  now : Time
  /-- the reset input is held low -/
  resetLow : Bool
  tracks : Vector (Option Track) 4
  serial : Nat
  runs : Vector (Option Run) 12
  movers : Vector Mover 12
  arbiter : Arbiter
  stations : Vector Station 32
  link : FieldLink
  proving : Proving
  toReservation : List SweepMessage
  toMovers : List MoverNo
  wind : WindUnit
  inputs : Inputs
  openingsMovers : Nat
  openingsFieldLink : Nat
  alerts : Alerts
  port : Port
  answer : Option Answer
  pending : List Instr
  deriving DecidableEq, Repr

/-- Why a step stops with a fault. The manual gives the part no event that stops it, so no reason exists: every command
has a next state. Safe: no command can fault. -/
inductive Fault where
  deriving DecidableEq, Repr

/-- Why a command is refused. -/
inductive Refusal where
  /-- Raised by `exec` alone, for a command whose meaning the model does not give yet. No arm raises it. Safe. -/
  | notModelled (mnemonic : String)
  deriving DecidableEq, Repr

/-! ### After full reset -/

/-- A mover record after full reset (R37, R39, R44). -/
def Mover.atReset : Mover where
  state := .lockedOut
  config := none
  target := none
  profile := none
  dir := .plus
  reference := none
  leadTime := none
  velocity := 0
  prevSpeed := 0
  prevTime := none
  stopReason := none
  phase := none
  fault := none
  enrol := none
  progress := []
  enrolTimer := none
  startTimer := none
  permitTimer := none
  dwellTimer := none
  stopTimer := none

/-- A station record after full reset (R118). -/
def Station.atReset : Station where
  assign := none
  capability := none
  generation := 0
  state := .dormant
  report := none
  standing := none
  urgent := false
  lastSent := none
  trim := 0

/-- A station's link state after full reset (R134). -/
def Link.atReset : Link where
  seq := false
  attempts := 0
  busy := 0
  due := none
  retry := none
  priority := false

/-- A channel record after full reset (R153); its first sample falls 250 ms after the reset (R155). The level of its
status line is a design choice (log entry 3). -/
def Channel.atReset : Channel where
  pulses := 0
  raw := none
  dead := false
  cls := .live .storm
  provisional := true
  gustTrip := false
  samples := 0
  sum := 0
  sumSq := 0
  winMin := none
  winMax := none
  gustSeen := false
  available := false
  stats := none
  due := BitVec.ofNat 32 Config.samplePeriod
  statusPin := true

/-- The wind settings after full reset (R154). -/
def windSettingsAtReset : WindSettings where
  scale0 := 64
  scale1 := 64
  scale2 := 64
  window := 15
  breezyQ := 60
  strongQ := 120
  strongGust := 180
  stormQ := 180
  stormGust := 250
  hysteresis := 10

/-- The alerts after full reset: STORM and ESTOP active and latched, the others neither (R167, R168). -/
def alertsAtReset : Alerts where
  gust := ⟨false, false⟩
  storm := ⟨true, true⟩
  rain := ⟨false, false⟩
  sensor := ⟨false, false⟩
  estop := ⟨true, true⟩
  intrusion := ⟨false, false⟩
  station := ⟨false, false⟩
  moverFault := ⟨false, false⟩

/-- The machine right after full reset, with the rain and emergency-stop inputs at the given levels: a conditioning
timer whose input is high runs from the reset (R166, R169). -/
def State.atReset (rainPin estopPin : Bool) : State where
  now := 0
  resetLow := false
  tracks := Vector.replicate 4 none
  serial := 0
  runs := Vector.replicate 12 none
  movers := Vector.replicate 12 Mover.atReset
  arbiter := { limit := 2, count := 0, queue := [] }
  stations := Vector.replicate 32 Station.atReset
  link := { links := Vector.replicate 32 Link.atReset, broadcast := false, inFlight := none, line := .idle }
  proving := { interval := 20, stale := 500, expiry := 20, cursor := 0, step := none, last := none }
  toReservation := []
  toMovers := []
  wind := { channels := Vector.replicate 3 Channel.atReset, settings := windSettingsAtReset }
  inputs :=
    { rainPin := rainPin, rainActive := false
      rainTimer := if rainPin then some (BitVec.ofNat 32 Config.rainOnTime) else none
      estopPin := estopPin, chainOpen := true
      chainTimer := if estopPin then some (BitVec.ofNat 32 Config.chainCloseTime) else none
      lastOpening := none }
  openingsMovers := 0
  openingsFieldLink := 0
  alerts := alertsAtReset
  port := { receiver := .hunting, buffer := [], sending := none }
  answer := none
  pending := []

/-- The machine right after full reset (each chapter's reset values), both hardwired inputs low (log entry 3). -/
def State.reset : State := State.atReset false false

end Sys2Proof.Machine
end

