-- ==== Sys2Proof/Machine/Ops.lean ====
section
/-!
DEFINITION. The named operations over the records: geometry of tracks and footprints (Chapter 1), hold runs
(Chapter 2), entries to the mover states (Chapter 3), the Admission Arbiter (Chapter 4), standing commands and link
state (Chapters 7 and 8). Every meaning is written over these.
-/

namespace Sys2Proof.Machine

open Sys2Proof

/-! ### Small codes -/

/-- A direction as a signed number (R1). -/
def Dir.sign (d : Dir) : Int :=
  match d with
  | .plus => 1
  | .minus => -1

/-- The counting states (R69). -/
def MState.counting (st : MState) : Bool :=
  match st with
  | .starting | .moving | .stopping => true
  | _ => false

/-- The six states in which the faults of R65 and R66 act. -/
def MState.inService (st : MState) : Bool :=
  match st with
  | .parked | .queued | .starting | .moving | .held | .stopping => true
  | _ => false

/-- The states in which a mover holds a run: every state but LOCKED_OUT and ENROLLING (R19). -/
def MState.holding (st : MState) : Bool :=
  match st with
  | .lockedOut | .enrolling => false
  | _ => true

/-- Zero band: a reported speed of magnitude 2 mm/s or less (R55). -/
def zeroBand (speed : Int) : Bool := decide (speed.natAbs ≤ Config.zeroBand)

/-! ### Access to the records -/

/-- Mover m's record. -/
def State.mover (s : State) (m : MoverNo) : Mover := tget s.movers m

/-- Mover m's record changed by `f`. -/
def State.modMover (s : State) (m : MoverNo) (f : Mover → Mover) : State :=
  { s with movers := tset s.movers m (f (tget s.movers m)) }

/-- The record of the station in row `a`. -/
def State.station (s : State) (a : StationNo) : Station := tget s.stations a

/-- The station record in row `a` changed by `f`. -/
def State.modStation (s : State) (a : StationNo) (f : Station → Station) : State :=
  { s with stations := tset s.stations a (f (tget s.stations a)) }

/-- The link state of the station in row `a` (R134). -/
def State.linkOf (s : State) (a : StationNo) : Link := tget s.link.links a

/-- The link state of the station in row `a` changed by `f`. -/
def State.modLink (s : State) (a : StationNo) (f : Link → Link) : State :=
  { s with link := { s.link with links := tset s.link.links a (f (tget s.link.links a)) } }

/-- Track k's record, absent when undefined (R2). -/
def State.track (s : State) (k : TrackNo) : Option Track := tget s.tracks k

/-- Mover m's hold run, absent when empty (R19). -/
def State.run (s : State) (m : MoverNo) : Option Run := tget s.runs m

/-- Mover m's hold run replaced. -/
def State.setRun (s : State) (m : MoverNo) (r : Option Run) : State := { s with runs := tset s.runs m r }

/-- The owning block's answer, returned to the port (R176, R177). -/
def State.reply (s : State) (code : Byte) (status : Status) (items : List Item) : State :=
  { s with answer := some { code := code, status := status, items := items } }

/-- The mover a number names: 0 to 11 (R37). -/
def moverNo (n : Nat) : Option MoverNo := if h : n < 12 then some ⟨n, h⟩ else none

/-- The Station Table row a station address names: 1 to 32 (R118). -/
def stationNo (n : Nat) : Option StationNo := if h : 1 ≤ n ∧ n ≤ 32 then some ⟨n - 1, by omega⟩ else none

/-- A station's address on the field link (R118). -/
def stationAddress (a : StationNo) : Nat := a.val + 1

/-- The track a number names: 0 to 3 (R2). -/
def trackNo (n : Nat) : Option TrackNo := if h : n < 4 then some ⟨n, h⟩ else none

/-- The station belongs to mover m (R118). -/
def Station.serves (st : Station) (m : MoverNo) : Bool :=
  match st.assign with
  | some x => decide (x.mover = m)
  | none => false

/-- The station's role, when it is assigned (R118). -/
def Station.role (st : Station) : Option Role := st.assign.map (·.role)

/-- The rows of the stations assigned to mover m, in address order. -/
def State.stationsOf (s : State) (m : MoverNo) : List StationNo :=
  (List.finRange 32).filter fun a => (s.station a).serves m

/-- Mover m's LEAD station: the lowest row whose station is assigned to m as LEAD (R122: there is one in service). -/
def State.leadOf (s : State) (m : MoverNo) : Option StationNo :=
  (s.stationsOf m).find? fun a => decide ((s.station a).role = some .lead)

/-- Every station record of mover m changed by `f`. -/
def State.modStationsOf (s : State) (m : MoverNo) (f : Station → Station) : State :=
  { s with stations := tmap (fun _ st => if st.serves m then f st else st) s.stations }

/-! ### Geometry (R3, R9, R10, R11) -/

/-- The number n of a track's segments (R2). -/
def Track.count (t : Track) : Nat := t.segs.length

/-- The segment start of place p (R3); at p = n, the track's end position. -/
def Track.segStart (t : Track) (p : Nat) : Nat := t.start + ((t.segs.take p).map (·.len)).sum

/-- The segment end of place p (R3). -/
def Track.segEnd (t : Track) (p : Nat) : Nat := t.segStart (p + 1)

/-- The track's end position (R2). -/
def Track.endPos (t : Track) : Nat := t.segStart t.count

/-- The footprint [lo, hi] overlaps place p (R10). -/
def Track.overlaps (t : Track) (lo hi : Int) (p : Nat) : Bool :=
  decide (lo < (t.segEnd p : Int)) && decide ((t.segStart p : Int) ≤ hi)

/-- The places a footprint overlaps, lowest first (R10). -/
def Track.overlapped (t : Track) (lo hi : Int) : List Nat :=
  (List.range t.count).filter fun p => t.overlaps lo hi p

/-- The footprint lies on the track (R10). -/
def Track.liesOn (t : Track) (lo hi : Int) : Bool :=
  decide ((t.start : Int) ≤ lo) && decide (hi ≤ (t.endPos : Int)) && !(t.overlapped lo hi).isEmpty

/-- The position lies in place p (R9). -/
def Track.inPlace (t : Track) (position p : Nat) : Bool :=
  decide (t.segStart p ≤ position) && decide (position < t.segEnd p)

/-- The table index belongs to the track (R4). -/
def Track.hasIndex (t : Track) (index : Nat) : Bool :=
  decide (t.base ≤ index) && decide (index < t.base + t.count)

/-- The track and place a table index is allocated to (R3, R4). -/
def State.locate (s : State) (index : Nat) : Option (TrackNo × Track × Nat) :=
  (List.finRange 4).findSome? fun k =>
    match s.track k with
    | some t => if t.hasIndex index then some (k, t, index - t.base) else none
    | none => none

/-- The segment record at place p of a track. -/
def Track.seg? (t : Track) (p : Nat) : Option Seg := t.segs[p]?

/-- The segment record of a table index, when it is allocated (R12). -/
def State.segAt (s : State) (index : Nat) : Option Seg :=
  match s.locate index with
  | some (_, t, p) => t.seg? p
  | none => none

/-- The track with the segment record at place p changed by `f`. -/
def Track.modSeg (t : Track) (p : Nat) (f : Seg → Seg) : Track := { t with segs := t.segs.modify p f }

/-- Track k's record replaced. -/
def State.setTrack (s : State) (k : TrackNo) (t : Option Track) : State := { s with tracks := tset s.tracks k t }

/-- The segment record of a table index changed by `f`; nothing where the index is unallocated. -/
def State.modSegAt (s : State) (index : Nat) (f : Seg → Seg) : State :=
  match s.locate index with
  | some (k, t, p) => s.setTrack k (some (t.modSeg p f))
  | none => s

/-- The base state of a segment (R13). -/
inductive BaseState where
  | free
  | held
  | blocked
  deriving DecidableEq, Repr

/-- A segment's base state, from its holder and blocked fields (R13). -/
def Seg.base (g : Seg) : BaseState :=
  if g.holder.isSome then .held else if g.blocked then .blocked else .free

/-- A segment is takeable when it is FREE and not suspect (R13). -/
def Seg.takeable (g : Seg) : Bool := decide (g.base = .free) && !g.suspect

/-! ### Allocation of table indices (R4) -/

/-- The index is allocated to some track of the table. -/
def allocated (tracks : Vector (Option Track) 4) (index : Nat) : Bool :=
  (List.finRange 4).any fun k =>
    match tget tracks k with
    | some t => t.hasIndex index
    | none => false

/-- First fit: the lowest base b with b to b + n − 1 all unallocated and b + n − 1 at most 127 (R4). -/
def firstFit (tracks : Vector (Option Track) 4) (n : Nat) : Option Nat :=
  (List.range 128).find? fun b =>
    decide (b + n ≤ 128) && (List.range n).all fun i => !allocated tracks (b + i)

/-- The length of the run of unallocated indices that begins at `index` (R4), looking at `fuel` indices at most. -/
def freeLength (tracks : Vector (Option Track) 4) : Nat → Nat → Nat
  | 0, _ => 0
  | fuel + 1, index =>
    if index < 128 && !allocated tracks index then freeLength tracks fuel (index + 1) + 1 else 0

/-- The size of the largest free run (R4). -/
def largestFreeRun (tracks : Vector (Option Track) 4) : Nat :=
  (List.range 128).foldl (fun best i => max best (freeLength tracks 128 i)) 0

/-- The lowest index at which a largest free run begins, absent when its size is 0 (R17). -/
def largestFreeStart (tracks : Vector (Option Track) 4) : Option Nat :=
  if largestFreeRun tracks = 0 then none
  else (List.range 128).find? fun i => decide (freeLength tracks 128 i = largestFreeRun tracks)

/-- The number of unallocated indices (R17). -/
def unallocatedCount (tracks : Vector (Option Track) 4) : Nat :=
  ((List.range 128).filter fun i => !allocated tracks i).length

/-! ### Footprint, run and authority end (R20, R21, R26, R40) -/

/-- The footprint of a mover record: the closed interval reference − minus extent to reference + plus extent (R40). -/
def Mover.footprint (x : Mover) : Option (Int × Int) :=
  match x.config, x.reference with
  | some c, some r => some (r - c.minusExtent, r + c.plusExtent)
  | _, _ => none

/-- The front position (R40). -/
def frontPosition (c : MoverConfig) (d : Dir) (reference : Int) : Int :=
  match d with
  | .plus => reference + c.plusExtent
  | .minus => reference - c.minusExtent

/-- The track a mover's configuration names, when it is defined. -/
def State.moverTrack (s : State) (m : MoverNo) : Option (TrackNo × Track) :=
  match (s.mover m).config with
  | some c => (s.track c.track).map fun t => (c.track, t)
  | none => none

/-- The authority end of a run on a track (R21). -/
def runAuthority (t : Track) (r : Run) (d : Dir) : Int :=
  match d with
  | .plus => (t.segEnd r.high : Int)
  | .minus => (t.segStart r.low : Int)

/-- A mover's authority end, absent when its run is empty (R21). -/
def State.authorityEnd (s : State) (m : MoverNo) : Option Int :=
  match s.run m, s.moverTrack m with
  | some r, some (_, t) => some (runAuthority t r (s.mover m).dir)
  | _, _ => none

/-- The place at a run's rear end (R20). -/
def Run.rear (r : Run) (d : Dir) : Nat :=
  match d with
  | .plus => r.low
  | .minus => r.high

/-- The raw authority e = (authority end − front position) × direction (R82). -/
def rawAuthority (c : MoverConfig) (d : Dir) (reference authority : Int) : Int :=
  (authority - frontPosition c d reference) * d.sign

/-! ### Wind class of a mover (R163) -/

/-- The place of a class in the order CALM, BREEZY, STRONG, STORM (R153). -/
def WindClass.rank (c : WindClass) : Nat :=
  match c with
  | .calm => 0
  | .breezy => 1
  | .strong => 2
  | .storm => 3

/-- The higher of two classes. -/
def WindClass.higher (a b : WindClass) : WindClass := if a.rank < b.rank then b else a

/-- The configuration selects the channel (R37, R181). -/
def MoverConfig.selects (c : MoverConfig) (ch : ChannelNo) : Bool := c.wind.testBit ch.val

/-- The classes of the selected channels that are not DEAD. -/
def WindUnit.liveClasses (w : WindUnit) (c : MoverConfig) : List WindClass :=
  ((List.finRange 3).filter c.selects).filterMap fun ch =>
    match (tget w.channels ch).cls with
    | .live k => some k
    | .dead => none

/-- The wind class of a mover with this configuration (R163). -/
def WindUnit.classFor (w : WindUnit) (c : MoverConfig) : WindClass :=
  if (List.finRange 3).any c.selects then
    match w.liveClasses c with
    | [] => .storm
    | k :: ks => ks.foldl WindClass.higher k
  else .calm

/-- A mover's wind class as it stands (R163); a mover without configuration selects no channel. -/
def State.windClass (s : State) (m : MoverNo) : WindClass :=
  match (s.mover m).config with
  | some c => s.wind.classFor c
  | none => .calm

/-- The mover's wind class is STORM and the mover is not storm-exempt (R61 check 5, R51, R67). -/
def State.stormBound (s : State) (m : MoverNo) : Bool :=
  match (s.mover m).config with
  | some c => decide (s.wind.classFor c = .storm) && !c.exempt
  | none => false

/-! ### Standing commands (R41, R127) -/

/-- A standing command set at the Mover Controller's bidding; the urgent mark is set with an urgent HOLD and cleared
by any other command (R127). -/
def Station.stand (cmd : Command) (urgent : Bool) (st : Station) : Station :=
  { st with standing := some cmd, urgent := urgent }

/-- The standing command of every station of mover m (R41). -/
def State.standAll (s : State) (m : MoverNo) (cmd : Command) (urgent : Bool) : State :=
  s.modStationsOf m (Station.stand cmd urgent)

/-- DRIVE with speed 0 and brake release, the command of STARTING and RUNDOWN (R41). -/
def driveZero : Command := .drive 0 true

/-! ### Entries to the mover states (R39, R41, R43) -/

/-- What every change of state does to the run-time fields: all timers stopped (R43), V and the previous commanded speed
0 and its time absent (R39), no stopping phase. -/
def Mover.leave (x : Mover) : Mover :=
  { x with
    velocity := 0, prevSpeed := 0, prevTime := none, phase := none, enrolTimer := none, startTimer := none,
    permitTimer := none, dwellTimer := none, stopTimer := none }

/-- Entry to ENROLLING at UNLOCK (R39, R46). -/
def Mover.toEnrolling (now : Time) (x : Mover) : Mover :=
  { x.leave with
    state := .enrolling, reference := none, leadTime := none, fault := none, enrol := none, progress := []
    enrolTimer := some (after now Config.enrolTimeout) }

/-- Entry to LOCKED_OUT (R39, R44); an enrol result is set when the cause gives one. -/
def Mover.toLockedOut (result : Option EnrolResult) (x : Mover) : Mover :=
  { x.leave with
    state := .lockedOut, progress := [], enrol := match result with | some r => some r | none => x.enrol }

/-- Entry to PARKED; a stop reason is set when the cause gives one. -/
def Mover.toParked (reason : Option StopReason) (x : Mover) : Mover :=
  { x.leave with
    state := .parked, stopReason := match reason with | some r => some r | none => x.stopReason }

/-- Entry to QUEUED (R72). -/
def Mover.toQueued (x : Mover) : Mover := { x.leave with state := .queued }

/-- Entry to STARTING: the start timer is started and the progress set emptied (R52). -/
def Mover.toStarting (now : Time) (x : Mover) : Mover :=
  { x.leave with
    state := .starting, progress := [], startTimer := some (after now Config.startTimeout) }

/-- Entry to MOVING: the permit timer is started, the dwell timer stands stopped (R52). -/
def Mover.toMoving (now : Time) (permit : Nat) (x : Mover) : Mover :=
  { x.leave with state := .moving, permitTimer := some (after now permit) }

/-- Entry to HELD (R57). -/
def Mover.toHeld (x : Mover) : Mover := { x.leave with state := .held }

/-- Entry to STOPPING in phase RUNDOWN: the stop timer is started (R57). -/
def Mover.toStopping (now : Time) (reason : StopReason) (x : Mover) : Mover :=
  { x.leave with
    state := .stopping, stopReason := some reason, phase := some .rundown
    stopTimer := some (after now Config.stopTimeout) }

/-- The start of phase BRAKING: the progress set is emptied (R57). -/
def Mover.toBraking (x : Mover) : Mover := { x with phase := some .braking, progress := [] }

/-- Entry to FAULTED: the fault code and the stop reason record the cause (R59). -/
def Mover.toFaulted (code : FaultCode) (x : Mover) : Mover :=
  { x.leave with state := .faulted, fault := some code, stopReason := some (.fault code) }

/-- A station joins the progress set (R39), kept in address order without repeats. -/
def insertStation (a : StationNo) : List StationNo → List StationNo
  | [] => [a]
  | b :: rest => if a < b then a :: b :: rest else if a = b then b :: rest else b :: insertStation a rest

/-- A mover's progress set holds every station assigned to it (R46, R52, R57). -/
def State.progressComplete (s : State) (m : MoverNo) : Bool :=
  (s.stationsOf m).all fun a => decide (a ∈ (s.mover m).progress)

/-! ### The Admission Arbiter (R69 to R76) -/

/-- An admitted mover enters STARTING: start timer, empty progress set, DRIVE 0 with release at every station (R52,
R72), every retained trim 0 (R91). -/
def State.enterStarting (s : State) (m : MoverNo) : State :=
  (s.modMover m (Mover.toStarting s.now)).modStationsOf m fun st =>
    { Station.stand driveZero false st with trim := 0 }

/-- Admission from the head of the queue while the count is below the limit (R74): `queue` is the queue as it stands. -/
def admitFrom : List QueueEntry → State → State
  | [], s => { s with arbiter := { s.arbiter with queue := [] } }
  | e :: rest, s =>
    if s.arbiter.count < s.arbiter.limit then
      admitFrom rest
        (State.enterStarting
          { s with arbiter := { s.arbiter with count := s.arbiter.count + 1, queue := rest } } e.mover)
    else { s with arbiter := { s.arbiter with queue := e :: rest } }

/-- The queue's head is admitted as far as the limit allows (R74). -/
def State.admitQueue (s : State) : State := admitFrom s.arbiter.queue s

/-- A mover has left a counting state for one that is not counting: the count falls by 1 (R69), and the head of the queue
is admitted in the same event (R74). -/
def State.leaveCounting (s : State) : State :=
  State.admitQueue { s with arbiter := { s.arbiter with count := s.arbiter.count - 1 } }

/-- A mover leaves the start queue without admission; the entries behind it move up (R71, R75). -/
def State.unqueue (s : State) (m : MoverNo) : State :=
  { s with arbiter := { s.arbiter with queue := s.arbiter.queue.filter fun e => decide (e.mover ≠ m) } }

/-- What the Arbiter is told when mover m has left state `old` for a state at rest or FAULTED (R42). -/
def State.departed (s : State) (m : MoverNo) (old : MState) : State :=
  match old with
  | .queued => s.unqueue m
  | .starting | .moving | .stopping => s.leaveCounting
  | _ => s

/-- An admission request, decided at once (R72): admitted into STARTING, or appended at the tail and QUEUED. -/
def State.requestAdmission (s : State) (m : MoverNo) : State :=
  if s.arbiter.count < s.arbiter.limit ∧ s.arbiter.queue = [] then
    State.enterStarting { s with arbiter := { s.arbiter with count := s.arbiter.count + 1 } } m
  else
    let entry : QueueEntry := { mover := m, since := s.now }
    (State.modMover { s with arbiter := { s.arbiter with queue := s.arbiter.queue ++ [entry] } } m
      Mover.toQueued).standAll m .hold false

/-- A mover's place in the queue, counted from 1 at the head (R71). -/
def State.queuePlace (s : State) (m : MoverNo) : Option Nat :=
  (s.arbiter.queue.findIdx? fun e => decide (e.mover = m)).map (· + 1)

/-! ### Faults, stops and rest (R57, R59, R63) -/

/-- A mover in service enters FAULTED with the code: HOLD, urgent, at every station, and the Arbiter told (R59, R65). In
FAULTED, LOCKED_OUT and ENROLLING nothing changes. -/
def State.enterFaulted (s : State) (m : MoverNo) (code : FaultCode) : State :=
  if (s.mover m).state.inService then
    ((s.modMover m (Mover.toFaulted code)).standAll m .hold true).departed m (s.mover m).state
  else s

/-- The speed the latest lead report carried (R57, R93). -/
def State.leadReport (s : State) (m : MoverNo) : Option Report :=
  match s.leadOf m with
  | some a => (s.station a).report
  | none => none

/-- The latest lead report shows zero-band speed (R57). -/
def State.leadAtRest (s : State) (m : MoverNo) : Bool :=
  match s.leadReport m with
  | some r => zeroBand r.speed
  | none => false

/-- The start of phase BRAKING: HOLD, urgent, at every station (R57). -/
def State.enterBraking (s : State) (m : MoverNo) : State :=
  (s.modMover m Mover.toBraking).standAll m .hold true

/-- Entry to STOPPING with a reason, in RUNDOWN; the phase ends at entry when the latest lead report shows zero-band
speed (R57). The Arbiter keeps counting the mover. -/
def State.enterStopping (s : State) (m : MoverNo) (reason : StopReason) : State :=
  let s1 := (s.modMover m (Mover.toStopping s.now reason)).standAll m driveZero false
  if s1.leadAtRest m then s1.enterBraking m else s1

/-- The end of the stop: HELD for reason AUTHORITY, PARKED for every other (R57), HOLD at every station (R41), and the
exit from a counting state told to the Arbiter (R42). -/
def State.endStop (s : State) (m : MoverNo) : State :=
  ((s.modMover m fun x =>
      if x.stopReason = some .authority then x.toHeld else x.toParked none).standAll m .hold false).leaveCounting

/-- A QUEUED or HELD mover is parked with a stop reason (R63, R67); leaving QUEUED removes its queue entry (R75). -/
def State.parkWith (s : State) (m : MoverNo) (reason : StopReason) : State :=
  ((s.modMover m (Mover.toParked (some reason))).standAll m .hold false).departed m (s.mover m).state

/-- STOP of one mover by its state (R63). -/
def State.stopMover (s : State) (m : MoverNo) : State :=
  match (s.mover m).state with
  | .starting | .moving => s.enterStopping m .stopRequest
  | .queued | .held => s.parkWith m .stopRequest
  | _ => s

/-- The reaction of one mover to a class notice that leaves it in STORM (R67). -/
def State.stormReact (s : State) (m : MoverNo) : State :=
  if s.stormBound m then
    match (s.mover m).state with
    | .starting | .moving => s.enterStopping m .wind
    | .queued => s.parkWith m .wind
    | _ => s
  else s

/-! ### Stations going in and out of service (R123, R146) -/

/-- A station made ACTIVE at its mover's entry to ENROLLING (R123). -/
def Station.toActive (st : Station) : Station :=
  { st with state := .active, report := none, capability := none, standing := some .ident, urgent := false }

/-- A station made DORMANT at its mover's entry to LOCKED_OUT (R123). -/
def Station.toDormant (st : Station) : Station :=
  { st with state := .dormant, standing := none, urgent := false }

/-- The link state at DORMANT to ACTIVE: counts cleared, no retry, due now (R146). -/
def Link.toActive (now : Time) (l : Link) : Link :=
  { l with attempts := 0, busy := 0, retry := none, due := some now }

/-- The link state at any state to DORMANT: no due time, no retry, no priority request; the counts are kept (R146). -/
def Link.toDormant (l : Link) : Link := { l with due := none, retry := none, priority := false }

/-- The link state at an assignment change: counts cleared, no retry, no due time; the sequence bit kept (R146). -/
def Link.reassigned (l : Link) : Link := { l with attempts := 0, busy := 0, retry := none, due := none }

/-- The stations of mover m and their link state changed together. -/
def State.modServiceOf (s : State) (m : MoverNo) (f : Station → Station) (g : Link → Link) : State :=
  { s with
    stations := tmap (fun _ st => if st.serves m then f st else st) s.stations
    link :=
      { s.link with links := tmap (fun a l => if (s.station a).serves m then g l else l) s.link.links } }

/-- Station a has a priority request: set and waiting, or carried by the transaction in flight (R146). -/
def State.hasPriority (s : State) (a : StationNo) : Bool :=
  (s.linkOf a).priority ||
  match s.link.inFlight with
  | some t => decide (t.station = a) && t.priority
  | none => false

/-- The mark of a transaction in flight to a station of mover m is cleared (R146). -/
def State.clearMark (s : State) (m : MoverNo) : State :=
  { s with
    link :=
      { s.link with
        inFlight := s.link.inFlight.map fun t =>
          if (s.station t.station).serves m then { t with priority := false } else t } }

/-- Entry of mover m to LOCKED_OUT, its stations DORMANT (R39, R48, R64, R123, R146). The transaction-ended notices of
dropped priority requests are given by `lockOut`, which calls this. -/
def State.enterLockedOut (s : State) (m : MoverNo) (result : Option EnrolResult) : State :=
  ((s.clearMark m).modMover m (Mover.toLockedOut result)).modServiceOf m Station.toDormant Link.toDormant

/-- Every segment of the run loses its holder and has its blocked flag set, and the run becomes empty (R31). -/
def State.blockRun (s : State) (m : MoverNo) : State :=
  match s.run m, s.moverTrack m with
  | some r, some (k, t) =>
    (s.setTrack k (some { t with
      segs := t.segs.mapIdx fun p g =>
        if r.low ≤ p ∧ p ≤ r.high then { g with holder := none, blocked := true } else g })).setRun m none
  | _, _ => s.setRun m none

/-! ### Hold runs (R23, R27, R28, R33) -/

/-- Why a RESERVE stopped, with the holder for HELD_BY and the stopping index for all but TRACK_END (R23). -/
inductive ReserveStop where
  | trackEnd
  | heldBy (holder : MoverNo) (index : Nat)
  | blocked (index : Nat)
  | suspect (index : Nat)
  deriving DecidableEq, Repr

/-- Why a RELEASE stopped (R27). -/
inductive ReleaseCause where
  | footprint
  | last
  deriving DecidableEq, Repr

/-- A segment gains a holder (R23, R28). -/
def Seg.grant (m : MoverNo) (g : Seg) : Seg := { g with holder := some m }

/-- A segment loses its holder (R27, R33). -/
def Seg.free (g : Seg) : Seg := { g with holder := none }

/-- The candidate place just beyond the named end (R23); `atPlus` names the PLUS end. -/
def Run.candidate (r : Run) (t : Track) (atPlus : Bool) : Option Nat :=
  if atPlus then (if r.high + 1 < t.count then some (r.high + 1) else none)
  else if r.low = 0 then none else some (r.low - 1)

/-- The run with the named end moved onto place p. -/
def Run.moveEnd (r : Run) (atPlus : Bool) (p : Nat) : Run :=
  if atPlus then { r with high := p } else { r with low := p }

/-- The test of a candidate in the order of R23: the stop reason, or none when it is takeable. -/
def reserveTest (t : Track) (p : Nat) (g : Seg) : Option ReserveStop :=
  match g.holder with
  | some h => some (.heldBy h (t.base + p))
  | none =>
    if g.blocked then some (.blocked (t.base + p))
    else if g.suspect then some (.suspect (t.base + p))
    else none

/-- What a RESERVE has done so far: the track, the run, the number granted, and the stop. -/
structure Reserving where
  track : Track
  run : Run
  granted : Nat
  stop : Option ReserveStop
  deriving DecidableEq, Repr

/-- The extension of a run at the named end, one takeable segment at a time (R23). -/
def reserveLoop (m : MoverNo) (atPlus : Bool) : Nat → Reserving → Reserving
  | 0, x => x
  | n + 1, x =>
    match x.run.candidate x.track atPlus with
    | none => { x with stop := some .trackEnd }
    | some p =>
      match x.track.seg? p with
      | none => { x with stop := some .trackEnd }
      | some g =>
        match reserveTest x.track p g with
        | some why => { x with stop := some why }
        | none =>
          reserveLoop m atPlus n
            { track := x.track.modSeg p (Seg.grant m), run := x.run.moveEnd atPlus p, granted := x.granted + 1
              stop := none }

/-- What a RELEASE has done so far: the track, the run, the number released, and the cause and place of the stop. -/
structure Releasing where
  track : Track
  run : Run
  released : Nat
  stop : Option (ReleaseCause × Nat)
  deriving DecidableEq, Repr

/-- The place at the named end of a run. -/
def Run.endPlace (r : Run) (atPlus : Bool) : Nat := if atPlus then r.high else r.low

/-- The run with the named end moved one place inward. -/
def Run.shrink (r : Run) (atPlus : Bool) : Run :=
  if atPlus then { r with high := r.high - 1 } else { r with low := r.low + 1 }

/-- The footprint, where there is one, overlaps place p of the track (R26). -/
def protects (footprint : Option (Int × Int)) (t : Track) (p : Nat) : Bool :=
  match footprint with
  | some (lo, hi) => t.overlaps lo hi p
  | none => false

/-- The shrinking of a run from the named end, one segment at a time (R27). -/
def releaseLoop (footprint : Option (Int × Int)) (atPlus : Bool) : Nat → Releasing → Releasing
  | 0, x => x
  | n + 1, x =>
    let p := x.run.endPlace atPlus
    if protects footprint x.track p then { x with stop := some (.footprint, p) }
    else if x.run.low = x.run.high then { x with stop := some (.last, p) }
    else
      releaseLoop footprint atPlus n
        { track := x.track.modSeg p Seg.free, run := x.run.shrink atPlus, released := x.released + 1, stop := none }

/-- The enrol take of a footprint on a track (R28): the enrol result, with the new track and run when it is OK. -/
def enrolTake (m : MoverNo) (t : Track) (lo hi : Int) : EnrolResult × Option (Track × Run) :=
  if t.liesOn lo hi then
    match (t.overlapped lo hi).find? (fun p => match t.seg? p with | some g => !g.takeable | none => true) with
    | some p => (.footprint (t.base + p), none)
    | none =>
      match (t.overlapped lo hi).head?, (t.overlapped lo hi).getLast? with
      | some low, some high =>
        (.ok, some ({ t with segs := t.segs.mapIdx fun p g => if t.overlaps lo hi p then g.grant m else g },
          { low := low, high := high }))
      | _, _ => (.position, none)
  else (.position, none)

/-! ### The time base -/

/-- A millisecond passes: the time base rises by 1, modulo 2³² (R1). It stands at 0 while the reset input holds the part
in reset (R1, R179). -/
def State.tick (s : State) : State := if s.resetLow then s else { s with now := s.now + 1 }

/-- An event reaches the part: nothing happens while the reset input is held low (R179). -/
def State.whileRunning (s : State) (f : State → State) : Host.Outcome State Fault Refusal :=
  .next (if s.resetLow then s else f s)

end Sys2Proof.Machine
end

