-- ==== Sys2Proof/Machine/Flags.lean ====
section
/-!
DEFINITION. The alert flags and ATTN: each alert's condition (R167), the update of its flags at the end of an owner's event
(R167, R168), and the output pins the records determine.
-/

namespace Sys2Proof.Machine

open Sys2Proof

/-- A record of one alert. -/
def Alerts.get (al : Alerts) (n : AlertName) : AlertFlags :=
  match n with
  | .gust => al.gust
  | .storm => al.storm
  | .rain => al.rain
  | .sensor => al.sensor
  | .estop => al.estop
  | .intrusion => al.intrusion
  | .station => al.station
  | .moverFault => al.moverFault

/-- Every alert record replaced by a function of its name and its old value. -/
def Alerts.mapFlags (al : Alerts) (f : AlertName → AlertFlags → AlertFlags) : Alerts where
  gust := f .gust al.gust
  storm := f .storm al.storm
  rain := f .rain al.rain
  sensor := f .sensor al.sensor
  estop := f .estop al.estop
  intrusion := f .intrusion al.intrusion
  station := f .station al.station
  moverFault := f .moverFault al.moverFault

/-- The alerts in the order of Table 11-3 (R178). -/
def alertNames : List AlertName := [.gust, .storm, .rain, .sensor, .estop, .intrusion, .station, .moverFault]

/-- An alert's number in Table 11-3, the bit of the alert-set byte that names it (R181). -/
def AlertName.bit (n : AlertName) : Nat :=
  match n with
  | .gust => 0
  | .storm => 1
  | .rain => 2
  | .sensor => 3
  | .estop => 4
  | .intrusion => 5
  | .station => 6
  | .moverFault => 7

/-- Any segment's suspect flag is set (R112). -/
def State.anySuspect (s : State) : Bool :=
  (List.finRange 4).any fun k => match s.track k with | some t => t.segs.any (·.suspect) | none => false

/-- Any channel satisfies a test. -/
def WindUnit.anyChannel (w : WindUnit) (f : Channel → Bool) : Bool := (List.finRange 3).any fun ch => f (tget w.channels ch)

/-- An alert's condition (R167). -/
def State.condition (s : State) (n : AlertName) : Bool :=
  match n with
  | .gust => s.wind.anyChannel (·.gustTrip)
  | .storm => s.wind.anyChannel fun c => decide (c.cls = .live .storm)
  | .rain => s.inputs.rainActive
  | .sensor => s.wind.anyChannel (·.dead)
  | .estop => s.inputs.chainOpen
  | .intrusion => s.anySuspect
  | .station =>
    (List.finRange 32).any fun a =>
      decide ((s.station a).state = .lost) || decide ((s.station a).state = .busyHalted)
  | .moverFault => (List.finRange 12).any fun m => decide ((s.mover m).state = .faulted)

/-- An alert's flags after its condition is told: the active flag follows the condition, and a rise sets the latched flag
(R167, R168). -/
def AlertFlags.follow (condition : Bool) (x : AlertFlags) : AlertFlags :=
  { active := condition, latched := x.latched || (condition && !x.active) }

/-- The Alert Unit told of the conditions at the end of an event (R167). -/
def State.updateAlerts (s : State) : State :=
  { s with alerts := s.alerts.mapFlags fun n x => x.follow (s.condition n) }

/-- ATTN is asserted exactly when at least one latched flag is set; while the reset input is low it is released (R168). -/
def State.attn (s : State) : Bool := !s.resetLow && alertNames.any fun n => (s.alerts.get n).latched

/-- FLD_DE, the field link's driver enable: high while the part sends (section 11.8, R134). -/
def State.driverEnable (s : State) : Bool :=
  match s.link.line with
  | .command _ | .broadcast _ => true
  | .idle | .window => false

end Sys2Proof.Machine
end

