-- ==== Sys2Proof/Machine/SpeedLaw.lean ====
section
/-!
DEFINITION. The speed-authority law and the skew trim as computations (Chapter 5): the integer square root, the eleven
stages, the extrapolation, the skew, the trim and the trimmed speed. What they write into the records stands with the
report intake.
-/

namespace Sys2Proof.Machine

open Sys2Proof

/-- The digits of the integer square root from the one of weight 2ⁿ⁻¹ down, above a root r found so far. -/
def isqrtFrom (x : Nat) : Nat → Nat → Nat
  | 0, r => r
  | n + 1, r => if (r + 2 ^ n) * (r + 2 ^ n) ≤ x then isqrtFrom x n (r + 2 ^ n) else isqrtFrom x n r

/-- isqrt(x): the largest integer whose square does not exceed x, for 0 ≤ x < 2³² (R80). -/
def isqrt (x : Nat) : Nat := isqrtFrom x 16 0

/-- The percentage p of stage 7 (R86). -/
def windPercent (cls : WindClass) (exempt : Bool) : Nat :=
  match cls with
  | .calm => 100
  | .breezy => 75
  | .strong => 40
  | .storm => if exempt then 40 else 0

/-- What an evaluation reads (R81). -/
structure LawInput where
  config : MoverConfig
  dir : Dir
  reference : Int
  authority : Int
  target : Nat
  profile : Nat
  prevSpeed : Nat
  prevTime : Option Time
  now : Time
  cls : WindClass
  deriving DecidableEq, Repr

/-- How an evaluation ends: by the overrun test (R82), or with a commanded speed magnitude for the output stage, whether
the arrival test held (R84), and the two distances the dwell test judges (R83). -/
inductive LawResult where
  | overrun
  | output (speed : Nat) (arrived : Bool) (dAuth dTgt : Nat)
  deriving DecidableEq, Repr

/-- Stage 2, the authority distance max(0, e − standoff) (R83). -/
def authorityDistance (c : MoverConfig) (e : Int) : Nat := (e - c.standoff).toNat

/-- Stage 3, the target distance |T − r| (R83). -/
def targetDistance (target : Nat) (reference : Int) : Nat := ((target : Int) - reference).natAbs

/-- Stages 5 and 6: the greatest speed from which braking at the mover's rate stops within a distance (R85). -/
def brakingLimit (c : MoverConfig) (distance : Nat) : Nat := isqrt (2 * c.brake * distance)

/-- Stage 7, the wind limit (R86). -/
def windLimit (c : MoverConfig) (cls : WindClass) : Nat := c.vMax * windPercent cls c.exempt / 100

/-- Stage 8, the goal (R87). -/
def lawGoal (i : LawInput) (dAuth dTgt : Nat) : Nat :=
  min i.profile (min i.config.vMax (min (brakingLimit i.config dAuth)
    (min (brakingLimit i.config dTgt) (windLimit i.config i.cls))))

/-- Stage 9, the creep floor (R87). -/
def creepFloor (c : MoverConfig) (dAuth goal : Nat) : Nat :=
  if 0 < dAuth ∧ c.creep ≤ brakingLimit c dAuth ∧ goal < c.creep then c.creep else goal

/-- The interval Δt of stage 10 (R88). -/
def rampInterval (now : Time) (prevTime : Option Time) : Nat :=
  match prevTime with
  | some t => min (elapsed now t) 1000
  | none => 0

/-- Stage 10, the ramp (R88). -/
def ramp (c : MoverConfig) (prevSpeed interval goal : Nat) : Nat :=
  if prevSpeed < goal then prevSpeed + min (goal - prevSpeed) (max 1 (c.accel * interval / 1000)) else goal

/-- Stages 1 to 10 of the speed-authority law (R82 to R88). -/
def speedLaw (i : LawInput) : LawResult :=
  let e := rawAuthority i.config i.dir i.reference i.authority
  if e < 0 then .overrun
  else
    let dAuth := authorityDistance i.config e
    let dTgt := targetDistance i.target i.reference
    if dTgt ≤ i.config.tolerance then .output 0 true dAuth dTgt
    else
      let goal := creepFloor i.config dAuth (lawGoal i dAuth dTgt)
      .output (ramp i.config i.prevSpeed (rampInterval i.now i.prevTime) goal) false dAuth dTgt

/-- What the law reads of mover m at an evaluation (R81); absent only where a field that every mover in motion has is
absent (log entry 12). -/
def State.lawInput (s : State) (m : MoverNo) : Option LawInput :=
  let x := s.mover m
  match x.config, x.reference, s.authorityEnd m, x.target, x.profile with
  | some c, some r, some e, some t, some p =>
    some { config := c, dir := x.dir, reference := r, authority := e, target := t, profile := p,
           prevSpeed := x.prevSpeed, prevTime := x.prevTime, now := s.now, cls := s.windClass m }
  | _, _, _, _, _ => none

/-- A follower's trimmed speed (R96). -/
def trimmedSpeed (velocity trim : Int) (d : Dir) (vMax : Nat) : Int :=
  if velocity = 0 then 0
  else
    let u := velocity - trim
    let u := if u * d.sign < 0 then 0 else u
    if u.natAbs > vMax then d.sign * vMax else u

/-- The command the output stage gives a station by its role (R89). -/
def lawCommand (velocity : Int) (d : Dir) (vMax : Nat) (st : Station) : Command :=
  match st.role with
  | some .lead => .drive velocity true
  | some .follow => .drive (trimmedSpeed velocity st.trim d vMax) true
  | _ => .drive 0 true

/-- Stage 11, the output: V, the previous commanded speed and its time, and every station's standing command (R89). -/
def State.lawOutput (s : State) (m : MoverNo) (c : MoverConfig) (speed : Nat) : State :=
  let d := (s.mover m).dir
  let v := d.sign * speed
  (s.modMover m fun x => { x with velocity := v, prevSpeed := speed, prevTime := some s.now }).modStationsOf m
    fun st => st.stand (lawCommand v d c.vMax st) false

/-- The extrapolated lead reference r_est (R93). -/
def extrapolate (reference leadSpeed : Int) (dt : Nat) : Int := reference + (leadSpeed * dt).tdiv 1000

/-- The trim of R95. -/
def trimFor (c : MoverConfig) (skew : Int) : Int :=
  clampInt ((skew * c.gain).tdiv 16) (-(c.trimLimit : Int)) c.trimLimit

end Sys2Proof.Machine
end

