-- ==== Sys2Proof/Machine/Sweep.lean ====
section
/-!
DEFINITION. The proving step (Chapter 6): relevant movers and staleness, the evaluation of a segment and what it sends,
the completion of a step, the transaction-ended notice, and with it the entry to LOCKED_OUT, which may drop the
priority request a step waits for (R146).
-/

namespace Sys2Proof.Machine

open Sys2Proof

/-! ### Evidence -/

/-- The latest report of a station carries a known position that lies in place p (R107). -/
def Station.standsIn (st : Station) (t : Track) (p : Nat) : Bool :=
  match st.report with
  | some r =>
    match r.position with
    | some x => t.inPlace x p
    | none => false
  | none => false

/-- Mover m occupies place p of track k (R107). -/
def State.occupies (s : State) (m : MoverNo) (k : TrackNo) (t : Track) (p : Nat) : Bool :=
  (s.mover m).state.holding &&
  (match (s.mover m).config with | some c => decide (c.track = k) | none => false) &&
  (protects (s.mover m).footprint t p || (s.stationsOf m).any fun a => (s.station a).standsIn t p)

/-- The movers that occupy place p of track k, in mover order (R107). -/
def State.occupiers (s : State) (k : TrackNo) (t : Track) (p : Nat) : List MoverNo :=
  (List.finRange 12).filter fun m => s.occupies m k t p

/-! ### Relevant movers and staleness (R104) -/

/-- The holders of a segment and its neighbours (R104). -/
def relevantMovers (t : Track) (p : Nat) : List MoverNo :=
  (List.finRange 12).filter fun m =>
    (List.range t.count).any fun q =>
      decide (q = p ∨ q + 1 = p ∨ q = p + 1) &&
      (match t.seg? q with | some g => decide (g.holder = some m) | none => false)

/-- The age of a mover's latest lead report. -/
def State.leadAge (s : State) (m : MoverNo) : Option Nat := (s.mover m).leadTime.map fun t => elapsed s.now t

/-- A relevant mover is stale when its lead report is older than the stale limit (R104). -/
def State.isStale (s : State) (m : MoverNo) : Bool :=
  match s.leadAge m with
  | some age => decide (s.proving.stale < age)
  | none => false

/-- Of a list of movers in mover order, the one with the oldest lead report, the lowest number among equals (R104). -/
def State.oldest (s : State) : List MoverNo → Option MoverNo
  | [] => none
  | m :: rest =>
    match s.oldest rest with
    | none => some m
    | some n => if (s.leadAge m).getD 0 < (s.leadAge n).getD 0 then some n else some m

/-- The stale relevant mover a step waits for, when there is one (R104). -/
def State.staleMover (s : State) (t : Track) (p : Nat) : Option MoverNo :=
  s.oldest ((relevantMovers t p).filter s.isStale)

/-! ### The evaluation (R107 to R110) -/

/-- The movers faulted with INTRUSION by the base state of the segment and its occupiers (R108), in mover order. -/
def intruders (g : Seg) (occupiers : List MoverNo) : List MoverNo :=
  match g.holder with
  | none => occupiers
  | some h =>
    if occupiers.any (fun m => decide (m ≠ h)) then
      (List.finRange 12).filter fun m => decide (m = h) || decide (m ∈ occupiers)
    else []

/-- The trailing release asked for after a Consistent finding (R110). A run of one segment, which is rear and front at once (R20),
meets the three conditions and also R110's "no release is asked for a segment at the front end"; that the request is sent, and
R33 makes it do nothing, is the model's choice (log entry 28). -/
def State.asksTrailing (s : State) (g : Seg) (occupiers : List MoverNo) (p : Nat) : Option MoverNo :=
  match g.holder with
  | none => none
  | some h =>
    let moving := decide ((s.mover h).state = .moving) || decide ((s.mover h).state = .stopping)
    let rear := match s.run h with | some r => decide (r.rear (s.mover h).dir = p) | none => false
    if moving && rear && !decide (h ∈ occupiers) then some h else none

/-- The evaluation of the segment at place p of track k: the finding, the trailing release request and the intrusion
notices are sent on their ways (R107 to R110). -/
def State.evaluate (s : State) (k : TrackNo) (t : Track) (p : Nat) (g : Seg) : State :=
  let occ := s.occupiers k t p
  let bad := intruders g occ
  let index := t.base + p
  if bad.isEmpty then
    let ask := match s.asksTrailing g occ p with | some h => [SweepMessage.trailing index h] | none => []
    { s with toReservation := s.toReservation ++ SweepMessage.consistent index t.serial s.now :: ask }
  else
    { s with
      toReservation := s.toReservation ++ [SweepMessage.inconsistent index t.serial]
      toMovers := s.toMovers ++ bad }

/-- A completed step: no step pending, last-completed now, the cursor advanced by 37 modulo 128 (R111). -/
def State.completeStep (s : State) : State :=
  { s with
    proving :=
      { s.proving with
        step := none, last := some s.now, cursor := (s.proving.cursor + Config.stride) % 128 } }

/-- The completion of a pending step at its notice: evaluated when the index still has the record it had (R106). -/
def State.completePending (s : State) (q : PendingStep) : State :=
  match s.locate q.index with
  | some (k, t, p) =>
    if t.serial = q.serial then
      match t.seg? p with
      | some g => (s.evaluate k t p g).completeStep
      | none => s.completeStep
    else s.completeStep
  | none => s.completeStep

/-- The transaction-ended notice for a station: the step that awaits it completes (R105, R106). -/
def State.noticeEnded (s : State) (a : StationNo) : State :=
  match s.proving.step with
  | some q => if q.awaited = a then s.completePending q else s
  | none => s

/-- The beginning of a step at the cursor, in an expiry that finds none pending (R103, R105). -/
def State.beginStep (s : State) : State :=
  match s.locate s.proving.cursor with
  | none => s.completeStep
  | some (k, t, p) =>
    match t.seg? p with
    | none => s.completeStep
    | some g =>
      match (s.staleMover t p).bind s.leadOf with
      | none => (s.evaluate k t p g).completeStep
      | some a =>
        State.modLink
          { s with
            proving :=
              { s.proving with
                step := some { index := s.proving.cursor, serial := t.serial, awaited := a, since := s.now } } }
          a fun l => { l with priority := true }

/-! ### Leaving service -/

/-- The stations of mover m whose priority request is dropped when they become DORMANT (R146). -/
def State.droppedRequests (s : State) (m : MoverNo) : List StationNo := (s.stationsOf m).filter s.hasPriority

/-- The transaction-ended notices of dropped requests (R105, R146). -/
def State.giveNotices (s : State) (dropped : List StationNo) : State := dropped.foldl State.noticeEnded s

/-- Entry to LOCKED_OUT of a mover without run, its stations DORMANT, the dropped requests' notices given (R48, R64). -/
def State.lockOut (s : State) (m : MoverNo) (result : Option EnrolResult) : State :=
  (s.enterLockedOut m result).giveNotices (s.droppedRequests m)

/-- Entry to LOCKED_OUT by LOCK from PARKED or FAULTED: the run is blocked in the same event (R31, R64). -/
def State.lockRun (s : State) (m : MoverNo) : State :=
  ((s.blockRun m).enterLockedOut m none).giveNotices (s.droppedRequests m)

/-- A station of mover m has failed (strike-out, busy halt, R65): a mover in service is faulted, an enrol ends with
STATION (R48), and a mover in FAULTED or LOCKED_OUT is unchanged. -/
def State.stationFailure (s : State) (m : MoverNo) (code : FaultCode) : State :=
  if (s.mover m).state = .enrolling then s.lockOut m (some .station) else s.enterFaulted m code

end Sys2Proof.Machine
end

