-- ==== Sys2Proof/Machine/Reports.lean ====
section
/-!
DEFINITION. What a filed report does (R129, R130): the enrol (R46, R47), the progress sets (R52, R57), the law with its
dwell and permit timers (R53 to R56), the resume test (R51), the skew trim (R91 to R96), recovery (R126), and the
Station Table's reaction to strike-outs and busy halts (R124, R125).
-/

namespace Sys2Proof.Machine

open Sys2Proof

/-! ### Enrol (R46 to R48) -/

/-- The lead, or a follower, reported a capability other than DRIVE_BRAKE (R47 check 1). -/
def State.lacksCapability (s : State) (m : MoverNo) : Bool :=
  (s.stationsOf m).any fun a =>
    decide ((s.station a).role ≠ some .brake) && decide ((s.station a).capability ≠ some .driveBrake)

/-- Some station's latest report shows a brake state other than APPLIED (R47 check 2). -/
def State.brakesNotApplied (s : State) (m : MoverNo) : Bool :=
  (s.stationsOf m).any fun a =>
    match (s.station a).report with
    | some r => decide (r.brake ≠ .applied)
    | none => true

/-- The enrol take asked of the Reservation Unit (R28, R47 check 3): its result and the state it leaves. -/
def State.takeFootprint (s : State) (m : MoverNo) : EnrolResult × State :=
  match s.moverTrack m, (s.mover m).footprint with
  | some (k, t), some (lo, hi) =>
    match enrolTake m t lo hi with
    | (r, some (t', run)) => (r, (s.setTrack k (some t')).setRun m (some run))
    | (r, none) => (r, s)
  | _, _ => (.position, s)

/-- The completion evaluation (R47). -/
def State.completeEnrol (s : State) (m : MoverNo) : State :=
  if s.lacksCapability m then s.lockOut m (some .capability)
  else if s.brakesNotApplied m then s.lockOut m (some .brakeState)
  else
    match s.takeFootprint m with
    | (.ok, s1) =>
      (s1.modMover m fun x => { Mover.toParked none x with enrol := some .ok, progress := [] }).standAll m .hold false
    | (r, _) => s.lockOut m (some r)

/-- The reference position and the lead report time, set from a lead report with known position (R40). -/
def State.fileReference (s : State) (m : MoverNo) (offset : Int) (r : Report) : State :=
  match r.position with
  | some x => s.modMover m fun y => { y with reference := some ((x : Int) - offset), leadTime := some r.arrival }
  | none => s

/-- A station joins mover m's progress set. -/
def State.joinProgress (s : State) (m : MoverNo) (a : StationNo) : State :=
  s.modMover m fun x => { x with progress := insertStation a x.progress }

/-- A report filed for a station of an ENROLLING mover (R46). -/
def State.reportEnrolling (s : State) (m : MoverNo) (a : StationNo) (x : Assignment) (ident : Bool) (r : Report) :
    State :=
  if r.faultCode ≠ 0 then s.lockOut m (some .station)
  else if r.position = none then s.lockOut m (some .position)
  else
    let s1 := if x.role = .lead then s.fileReference m x.offset r else s
    if ident then
      let s2 := s1.joinProgress m a
      if s2.progressComplete m then s2.completeEnrol m else s2
    else s1

/-! ### Motion (R51 to R57) -/

/-- The progress set of a STARTING mover is complete: the law is evaluated once, and the mover enters MOVING, or FAULTED
with OVERRUN (R52, R81). -/
def State.enterMoving (s : State) (m : MoverNo) : State :=
  match s.lawInput m with
  | none => s
  | some i =>
    match speedLaw i with
    | .overrun => s.enterFaulted m .overrun
    | .output speed _ _ _ =>
      (s.modMover m (Mover.toMoving s.now i.config.permit)).lawOutput m i.config speed

/-- A report for a STARTING mover: a RELEASED brake state joins the progress set (R52). -/
def State.reportStarting (s : State) (m : MoverNo) (a : StationNo) (r : Report) : State :=
  if r.brake = .released then
    let s1 := s.joinProgress m a
    if s1.progressComplete m then s1.enterMoving m else s1
  else s

/-- The dwell test (R55) on the evaluation's distances and the report's speed. -/
def State.dwellTest (s : State) (m : MoverNo) (c : MoverConfig) (dAuth dTgt : Nat) (speed : Int) : State :=
  s.modMover m fun x =>
    if dAuth = 0 ∧ c.tolerance < dTgt ∧ zeroBand speed = true then
      { x with
        dwellTimer := match x.dwellTimer with | some t => some t | none => some (after s.now (c.dwell * 1000)) }
    else { x with dwellTimer := none }

/-- A lead report for a MOVING mover: the law, arrival, the dwell test and the permit timer (R53). -/
def State.leadMoving (s : State) (m : MoverNo) (r : Report) : State :=
  match s.lawInput m with
  | none => s
  | some i =>
    match speedLaw i with
    | .overrun => s.enterFaulted m .overrun
    | .output speed arrived dAuth dTgt =>
      let s1 := s.lawOutput m i.config speed
      if arrived ∧ zeroBand r.speed = true then s1.enterStopping m .arrived
      else
        (s1.dwellTest m i.config dAuth dTgt r.speed).modMover m fun x =>
          { x with permitTimer := some (after s.now i.config.permit) }

/-- The overrun test finds the front position past the authority end (R54). -/
def State.overruns (s : State) (m : MoverNo) : Bool :=
  match (s.mover m).config, (s.mover m).reference, s.authorityEnd m with
  | some c, some r, some e => decide (rawAuthority c (s.mover m).dir r e < 0)
  | _, _, _ => false

/-- A report for a STOPPING mover: in RUNDOWN a lead report at zero-band speed begins BRAKING; in BRAKING an APPLIED brake
state joins the progress set, and the stop ends when the set is complete (R57). -/
def State.stopProgress (s : State) (m : MoverNo) (a : StationNo) (role : Role) (r : Report) : State :=
  match (s.mover m).phase with
  | some .braking =>
    if r.brake = .applied then
      let s1 := s.joinProgress m a
      if s1.progressComplete m then s1.endStop m else s1
    else s
  | _ => if role = .lead ∧ zeroBand r.speed = true then s.enterBraking m else s

/-- A report for a STOPPING mover (R54, R57). -/
def State.reportStopping (s : State) (m : MoverNo) (a : StationNo) (role : Role) (r : Report) : State :=
  if role = .lead ∧ s.overruns m = true then s.enterFaulted m .overrun else s.stopProgress m a role r

/-- The resume test of a HELD mover at a lead report (R51). -/
def State.resumePasses (s : State) (m : MoverNo) : Bool :=
  match (s.mover m).config, (s.mover m).reference, s.authorityEnd m, (s.mover m).target with
  | some c, some r, some e, some t =>
    decide (c.resume ≤ authorityDistance c (rawAuthority c (s.mover m).dir r e)) &&
    decide (c.tolerance < targetDistance t r) && !s.stormBound m
  | _, _, _, _ => false

/-- A report for a HELD mover: a lead report makes the resume test (R51). -/
def State.reportHeld (s : State) (m : MoverNo) (role : Role) : State :=
  if role = .lead ∧ s.resumePasses m = true then s.requestAdmission m else s

/-! ### The skew trim (R91 to R96) -/

/-- The skew of a follower report, when it is judged (R92, R93): the lead evidence present and not stale. -/
def State.skewOf (s : State) (m : MoverNo) (offset : Int) (r : Report) : Option Int :=
  match (s.mover m).reference, (s.mover m).leadTime, s.leadReport m, r.position with
  | some rl, some tl, some lead, some p =>
    if elapsed r.arrival tl ≤ s.proving.stale then
      some ((p : Int) - offset - extrapolate rl lead.speed (elapsed r.arrival tl))
    else none
  | _, _, _, _ => none

/-- The trim written, and in MOVING the follower's trimmed speed set (R95, R96). -/
def State.writeTrim (s : State) (m : MoverNo) (a : StationNo) (c : MoverConfig) (trim : Int) : State :=
  let x := s.mover m
  s.modStation a fun st =>
    let st1 := { st with trim := trim }
    if x.state = .moving then st1.stand (.drive (trimmedSpeed x.velocity trim x.dir c.vMax) true) false else st1

/-- The skew trim at a follower report (R91 to R96). -/
def State.skewTrim (s : State) (m : MoverNo) (a : StationNo) (offset : Int) (r : Report) : State :=
  match (s.mover m).config, s.skewOf m offset r with
  | some c, some skew =>
    if c.skewLimit < skew.natAbs then s.enterFaulted m .skew else s.writeTrim m a c (trimFor c skew)
  | _, _ => s

/-! ### The report by the mover's state (R130) -/

/-- What a sound report does in its mover's state, before the skew trim (R49 to R57). -/
def State.reportByState (s : State) (m : MoverNo) (a : StationNo) (role : Role) (r : Report) : State :=
  match (s.mover m).state with
  | .starting => s.reportStarting m a r
  | .moving => if role = .lead then s.leadMoving m r else s
  | .stopping => s.reportStopping m a role r
  | .held => s.reportHeld m role
  | _ => s

/-- A report filed for a station of a mover in service (R40, R65, R91). The skew trim is made for a report filed while the
mover is in a counting state, after the progress judgement, unless that faulted the mover (log entry 9). -/
def State.reportInService (s : State) (m : MoverNo) (a : StationNo) (x : Assignment) (r : Report) : State :=
  let s1 := if x.role = .lead then s.fileReference m x.offset r else s
  if (s.mover m).state = .faulted then s1
  else if r.faultCode ≠ 0 ∨ r.position = none then s1.enterFaulted m .stationFault
  else
    let s2 := s1.reportByState m a x.role r
    if x.role = .follow ∧ (s.mover m).state.counting = true ∧ (s2.mover m).state ≠ .faulted then
      s2.skewTrim m a x.offset r
    else s2

/-- A filed report is passed to the Mover Controller (R130). -/
def State.passReport (s : State) (a : StationNo) (ident : Bool) (r : Report) : State :=
  match (s.station a).assign with
  | none => s
  | some x =>
    match (s.mover x.mover).state with
    | .lockedOut => s
    | .enrolling => s.reportEnrolling x.mover a x ident r
    | _ => s.reportInService x.mover a x r

/-! ### Filing (R126, R127, R129) -/

/-- The station is LOST or BUSY_HALTED. -/
def StState.failed (st : StState) : Bool :=
  match st with
  | .lost | .busyHalted => true
  | _ => false

/-- The capability field after a report is filed (R126, R129): an IDENT answer writes it, unless the station is LOST or
BUSY_HALTED with a known one. -/
def Station.newCapability (st : Station) (r : Report) : Option Capability :=
  match r.capability with
  | none => st.capability
  | some c => if st.state.failed && st.capability.isSome then st.capability else some c

/-- The station recovers at this report (R126): LOST or BUSY_HALTED, fault code 0, a known position, and no capability that
differs from a known stored one. -/
def Station.recovers (st : Station) (r : Report) : Bool :=
  st.state.failed && decide (r.faultCode = 0) && r.position.isSome &&
  (match r.capability, st.capability with
   | some c, some k => decide (c = k)
   | _, _ => true)

/-- A matching REPORT filed in the station record (R129), with recovery (R126) and the switch to SAMPLE after an IDENT
answer of an ACTIVE station whose mover is ENROLLING (R127). -/
def Station.file (r : Report) (toSample : Bool) (st : Station) : Station :=
  let st1 :=
    { st with
      report := some r, capability := st.newCapability r
      state := if st.recovers r then .active else st.state }
  if toSample then st1.stand .sample false else st1

/-- The station's mover is ENROLLING. -/
def State.enrollingStation (s : State) (a : StationNo) : Bool :=
  match (s.station a).assign with
  | some x => decide ((s.mover x.mover).state = .enrolling)
  | none => false

/-- A matching REPORT with the right sequence bit is filed and passed on, in one event (R129, R130). -/
def State.fileReport (s : State) (a : StationNo) (ident : Bool) (r : Report) : State :=
  let toSample := ident && decide ((s.station a).state = .active) && s.enrollingStation a
  (s.modStation a (Station.file r toSample)).passReport a ident r

/-! ### Strike-out and busy halt at the Station Table (R124, R125) -/

/-- The mover of a station is told of its failure (R65). -/
def State.tellFailure (s : State) (a : StationNo) (code : FaultCode) : State :=
  match (s.station a).assign with
  | some x => s.stationFailure x.mover code
  | none => s

/-- A strike-out reported to the Station Table (R124). -/
def State.strikeOut (s : State) (a : StationNo) : State :=
  match (s.station a).state with
  | .active | .busyHalted => (s.modStation a fun st => { st with state := .lost }).tellFailure a .stationLost
  | _ => s

/-- A busy halt reported to the Station Table (R125). -/
def State.busyHalt (s : State) (a : StationNo) : State :=
  match (s.station a).state with
  | .active => (s.modStation a fun st => { st with state := .busyHalted }).tellFailure a .busyTimeout
  | _ => s

end Sys2Proof.Machine
end

