-- ==== Sys2Proof/WellFormed.lean ====
section
/-!
DEFINITION. Well-formedness of commands: each operand fits the field that carries it (R181, R138, R173). A value that
fits its field and lies outside the operand's range is well formed: the owning rule refuses or clamps it.
-/

namespace Sys2Proof

/-- A number that `k` bytes can carry. -/
def fits (k n : Nat) : Bool := decide (n < 256 ^ k)

/-- A signed number that `k` bytes can carry in two's complement. -/
def fitsSigned (k : Nat) (z : Int) : Bool :=
  decide (-((256 ^ k / 2 : Nat) : Int) ≤ z ∧ z < ((256 ^ k / 2 : Nat) : Int))

/-- CONFIGURE_MOVER's operands fit the sizes of Table 11-2 (R181). -/
def RawConfig.wf (c : RawConfig) : Bool :=
  fits 1 c.track && fits 3 c.plusExtent && fits 3 c.minusExtent && fits 2 c.vMax && fits 1 c.accel &&
  fits 2 c.brake && fits 2 c.standoff && fits 1 c.tolerance && fits 1 c.creep && fits 1 c.gain &&
  fits 1 c.trimLimit && fits 2 c.skewLimit && fits 2 c.resume && fits 1 c.dwell && fits 2 c.permit &&
  fits 1 c.wind && fits 1 c.exempt

/-- SET_WIND's operands fit the sizes of Table 11-2 (R181). -/
def WindSettings.wf (w : WindSettings) : Bool :=
  fits 2 w.scale0 && fits 2 w.scale1 && fits 2 w.scale2 && fits 1 w.window && fits 2 w.breezyQ &&
  fits 2 w.strongQ && fits 2 w.strongGust && fits 2 w.stormQ && fits 2 w.stormGust && fits 1 w.hysteresis

/-- The bytes are one supervisory frame by its length byte: start byte 0x5A, a length from 2 to 252, and length + 2
bytes after it (R173, R174). Whether its CRC matches is judged when it arrives. -/
def frameShape (bytes : List Byte) : Bool :=
  match bytes with
  | start :: len :: rest =>
    decide (start = 0x5A#8) && decide (2 ≤ len.toNat) && decide (len.toNat ≤ 252) &&
    decide (rest.length = len.toNat + 2)
  | _ => false

/-- The last of the bytes is a length below 2 or above 252 (R174). -/
def endsInBadLength (line : List LineByte) : Bool :=
  match line.getLast? with
  | some b => decide (b.value.toNat < 2 ∨ 252 < b.value.toNat)
  | none => false

/-- Well-formed commands. -/
def Instr.wf (i : Instr) : Bool :=
  match i with
  | .frameLengthDrop line => endsInBadLength line
  | .defineTrack track start count lengths =>
    fits 1 track && fits 3 start && fits 1 count && decide (lengths.length = count) && lengths.all (fits 2)
  | .removeTrack track => fits 1 track
  | .queryTrack track => fits 1 track
  | .blockSegment index => fits 1 index
  | .unblockSegment index => fits 1 index
  | .querySegment index => fits 1 index
  | .reserve mover endCode count => fits 1 mover && fits 1 endCode && fits 1 count
  | .release mover endCode count => fits 1 mover && fits 1 endCode && fits 1 count
  | .configureMover mover cfg => fits 1 mover && cfg.wf
  | .unlock mover => fits 1 mover
  | .lock mover => fits 1 mover
  | .move mover target profile => fits 1 mover && fits 3 target && fits 2 profile
  | .stop mover => fits 1 mover
  | .resetFault mover => fits 1 mover
  | .queryMover mover => fits 1 mover
  | .assignStation address mover role offset poll busyExp =>
    fits 1 address && fits 1 mover && fits 1 role && fitsSigned 3 offset && fits 2 poll && fits 1 busyExp
  | .unassignStation address => fits 1 address
  | .queryStation address view => fits 1 address && fits 1 view
  | .setAdmission limit => fits 1 limit
  | .setProving interval stale => fits 2 interval && fits 2 stale
  | .setWind settings => settings.wf
  | .ackAlerts set => fits 1 set
  | .fieldAnswerReceived bytes => !bytes.isEmpty
  | .consistentFinding index => decide (index < 128)
  | .inconsistentFinding index => decide (index < 128)
  | .trailingRelease index => decide (index < 128)
  | .fullReset => true
  | .frameReceived _ _ => true
  | .frameGapTimeout => true
  | .answerSent => true
  | .stopAll => true
  | .queryQueue => true
  | .queryProving => true
  | .queryWind => true
  | .queryAlerts => true
  | .identify => true
  | .transactionStart => true
  | .broadcastHoldStart => true
  | .broadcastHoldEnd => true
  | .answerBreak => true
  | .answerWindowClosed => true
  | .provingTimerExpiry => true
  | .intrusionNotice _ => true
  | .enrolTimerExpiry _ => true
  | .startTimerExpiry _ => true
  | .permitTimerExpiry _ => true
  | .dwellTimerExpiry _ => true
  | .stopTimerExpiry _ => true
  | .anemometerPulse _ => true
  | .windSample _ _ => true
  | .rainInputChange _ => true
  | .rainOnExpiry => true
  | .rainOffExpiry => true
  | .estopInputChange _ => true
  | .chainOpen => true
  | .chainClosed => true
  | .openingNoticeMovers => true
  | .openingNoticeFieldLink => true
  | .commandFrameEnd => true
  | .resetInputReleased => true

end Sys2Proof
end

