-- ==== Sys2Proof/Decode.lean ====
section
/-!
DEFINITION. Decoding. spec/opcode_table.json gives no row any bits, so no word spells a command by the table
(`decodeTableWord`). What the part does decode is the body of a supervisory request frame, by the catalogue of R181
(`decodeRequest`); the encoder of requests stands after it, written from the same table.
-/

namespace Sys2Proof

/-- The command a word spells by the opcode table's bits. The table gives no row any bits: none. -/
def decodeTableWord (_nbits _w : Nat) : Option Instr := none

/-- An unsigned number sent most significant byte first (R138, R173). -/
def ofBytes (bytes : List Byte) : Nat := bytes.foldl (fun acc b => acc * 256 + b.toNat) 0

/-- A number in two's complement sent most significant byte first (R138, R181). -/
def ofBytesSigned (bytes : List Byte) : Int :=
  let n := ofBytes bytes
  let m := 256 ^ bytes.length
  if 2 * n < m then (n : Int) else (n : Int) - (m : Int)

/-- The `k` low bytes of a number, most significant byte first; a negative number in two's complement (R138, R178). -/
def toBytes : Nat → Int → List Byte
  | 0, _ => []
  | k + 1, z => BitVec.ofInt 8 (z / ((256 ^ k : Nat) : Int)) :: toBytes k z

/-- The two-byte segment lengths at the end of DEFINE_TRACK's body (R181). -/
def lengthsOf : List Byte → List Nat
  | a :: b :: rest => ofBytes [a, b] :: lengthsOf rest
  | _ => []

/-- The byte that names DEFINE_TRACK's expected body length, 5 + 2 × n, with n the count as carried (R176); the free
value where that is no value of one byte (log entry 15). -/
def expectedTrackLength (count : Nat) : BitVec 8 :=
  if 5 + 2 * count < 256 then BitVec.ofNat 8 (5 + 2 * count) else Config.freeExpectedLength (some count)

/-- CONFIGURE_MOVER's 28 body bytes (R181). -/
def decodeConfigure (body : List Byte) : Except BadReason Instr :=
  match body with
  | [m, tr, p1, p2, p3, n1, n2, n3, v1, v2, a, b1, b2, s1, s2, tol, cr, g, tl, k1, k2, r1, r2, d, q1, q2, w, x] =>
    .ok (.configureMover m.toNat
      { track := tr.toNat, plusExtent := ofBytes [p1, p2, p3], minusExtent := ofBytes [n1, n2, n3],
        vMax := ofBytes [v1, v2], accel := a.toNat, brake := ofBytes [b1, b2], standoff := ofBytes [s1, s2],
        tolerance := tol.toNat, creep := cr.toNat, gain := g.toNat, trimLimit := tl.toNat,
        skewLimit := ofBytes [k1, k2], resume := ofBytes [r1, r2], dwell := d.toNat, permit := ofBytes [q1, q2],
        wind := w.toNat, exempt := x.toNat })
  | _ => .error (.length 28)

/-- SET_WIND's 18 body bytes (R181). -/
def decodeSetWind (body : List Byte) : Except BadReason Instr :=
  match body with
  | [a1, a2, b1, b2, c1, c2, n, q1, q2, s1, s2, g1, g2, t1, t2, u1, u2, h] =>
    .ok (.setWind
      { scale0 := ofBytes [a1, a2], scale1 := ofBytes [b1, b2], scale2 := ofBytes [c1, c2], window := n.toNat,
        breezyQ := ofBytes [q1, q2], strongQ := ofBytes [s1, s2], strongGust := ofBytes [g1, g2],
        stormQ := ofBytes [t1, t2], stormGust := ofBytes [u1, u2], hysteresis := h.toNat })
  | _ => .error (.length 18)

/-- DEFINE_TRACK's body: track, start, count and the lengths, whose number must be the count (R5, R176, R181). -/
def decodeDefineTrack (body : List Byte) : Except BadReason Instr :=
  match body with
  | t :: s1 :: s2 :: s3 :: n :: rest =>
    if rest.length = 2 * n.toNat then
      .ok (.defineTrack t.toNat (ofBytes [s1, s2, s3]) n.toNat (lengthsOf rest))
    else .error (.length (expectedTrackLength n.toNat))
  | _ => .error (.length (Config.freeExpectedLength none))

/-- A body of one byte. -/
def decodeOne (make : Nat → Instr) (body : List Byte) : Except BadReason Instr :=
  match body with
  | [a] => .ok (make a.toNat)
  | _ => .error (.length 1)

/-- An empty body. -/
def decodeNone (i : Instr) (body : List Byte) : Except BadReason Instr :=
  match body with
  | [] => .ok i
  | _ => .error (.length 0)

/-- A body of three one-byte operands, RESERVE's and RELEASE's. -/
def decodeThree (make : Nat → Nat → Nat → Instr) (body : List Byte) : Except BadReason Instr :=
  match body with
  | [a, b, c] => .ok (make a.toNat b.toNat c.toNat)
  | _ => .error (.length 3)

/-- MOVE's body (R181). -/
def decodeMove (body : List Byte) : Except BadReason Instr :=
  match body with
  | [m, t1, t2, t3, v1, v2] => .ok (.move m.toNat (ofBytes [t1, t2, t3]) (ofBytes [v1, v2]))
  | _ => .error (.length 6)

/-- ASSIGN_STATION's body (R181). -/
def decodeAssign (body : List Byte) : Except BadReason Instr :=
  match body with
  | [a, m, r, o1, o2, o3, p1, p2, b] =>
    .ok (.assignStation a.toNat m.toNat r.toNat (ofBytesSigned [o1, o2, o3]) (ofBytes [p1, p2]) b.toNat)
  | _ => .error (.length 9)

/-- QUERY_STATION's body (R181). -/
def decodeQueryStation (body : List Byte) : Except BadReason Instr :=
  match body with
  | [a, v] => .ok (.queryStation a.toNat v.toNat)
  | _ => .error (.length 2)

/-- SET_PROVING's body (R181). -/
def decodeSetProving (body : List Byte) : Except BadReason Instr :=
  match body with
  | [i1, i2, s1, s2] => .ok (.setProving (ofBytes [i1, i2]) (ofBytes [s1, s2]))
  | _ => .error (.length 4)

/-- Decoding a request by its code, then by the length of its body (R176 steps 1 and 2, Table 11-2 of R181). -/
def decodeRequest (code : Byte) (body : List Byte) : Except BadReason Instr :=
  match code.toNat with
  | 0x01 => decodeDefineTrack body
  | 0x02 => decodeOne .removeTrack body
  | 0x03 => decodeOne .queryTrack body
  | 0x04 => decodeOne .blockSegment body
  | 0x05 => decodeOne .unblockSegment body
  | 0x06 => decodeOne .querySegment body
  | 0x10 => decodeThree .reserve body
  | 0x11 => decodeThree .release body
  | 0x20 => decodeConfigure body
  | 0x21 => decodeOne .unlock body
  | 0x22 => decodeOne .lock body
  | 0x23 => decodeMove body
  | 0x24 => decodeOne .stop body
  | 0x25 => decodeNone .stopAll body
  | 0x26 => decodeOne .resetFault body
  | 0x27 => decodeOne .queryMover body
  | 0x30 => decodeAssign body
  | 0x31 => decodeOne .unassignStation body
  | 0x32 => decodeQueryStation body
  | 0x40 => decodeOne .setAdmission body
  | 0x41 => decodeNone .queryQueue body
  | 0x50 => decodeSetProving body
  | 0x51 => decodeNone .queryProving body
  | 0x60 => decodeSetWind body
  | 0x61 => decodeNone .queryWind body
  | 0x70 => decodeNone .queryAlerts body
  | 0x71 => decodeOne .ackAlerts body
  | 0x7F => decodeNone .identify body
  | _ => .error .unknownCode

/-- The request code of Table 11-2 (R181), for the commands that are requests. -/
def requestCode (i : Instr) : Option Byte :=
  match i with
  | .defineTrack _ _ _ _ => some 0x01#8
  | .removeTrack _ => some 0x02#8
  | .queryTrack _ => some 0x03#8
  | .blockSegment _ => some 0x04#8
  | .unblockSegment _ => some 0x05#8
  | .querySegment _ => some 0x06#8
  | .reserve _ _ _ => some 0x10#8
  | .release _ _ _ => some 0x11#8
  | .configureMover _ _ => some 0x20#8
  | .unlock _ => some 0x21#8
  | .lock _ => some 0x22#8
  | .move _ _ _ => some 0x23#8
  | .stop _ => some 0x24#8
  | .stopAll => some 0x25#8
  | .resetFault _ => some 0x26#8
  | .queryMover _ => some 0x27#8
  | .assignStation _ _ _ _ _ _ => some 0x30#8
  | .unassignStation _ => some 0x31#8
  | .queryStation _ _ => some 0x32#8
  | .setAdmission _ => some 0x40#8
  | .queryQueue => some 0x41#8
  | .setProving _ _ => some 0x50#8
  | .queryProving => some 0x51#8
  | .setWind _ => some 0x60#8
  | .queryWind => some 0x61#8
  | .queryAlerts => some 0x70#8
  | .ackAlerts _ => some 0x71#8
  | .identify => some 0x7F#8
  | _ => none

/-- The request body of Table 11-2 (R181). -/
def requestBody (i : Instr) : List Byte :=
  match i with
  | .defineTrack track start count lengths =>
    toBytes 1 track ++ toBytes 3 start ++ toBytes 1 count ++ lengths.flatMap (fun n : Nat => toBytes 2 (n : Int))
  | .removeTrack track => toBytes 1 track
  | .queryTrack track => toBytes 1 track
  | .blockSegment index => toBytes 1 index
  | .unblockSegment index => toBytes 1 index
  | .querySegment index => toBytes 1 index
  | .reserve mover endCode count => toBytes 1 mover ++ toBytes 1 endCode ++ toBytes 1 count
  | .release mover endCode count => toBytes 1 mover ++ toBytes 1 endCode ++ toBytes 1 count
  | .configureMover mover c =>
    toBytes 1 mover ++ toBytes 1 c.track ++ toBytes 3 c.plusExtent ++ toBytes 3 c.minusExtent ++ toBytes 2 c.vMax ++
    toBytes 1 c.accel ++ toBytes 2 c.brake ++ toBytes 2 c.standoff ++ toBytes 1 c.tolerance ++ toBytes 1 c.creep ++
    toBytes 1 c.gain ++ toBytes 1 c.trimLimit ++ toBytes 2 c.skewLimit ++ toBytes 2 c.resume ++ toBytes 1 c.dwell ++
    toBytes 2 c.permit ++ toBytes 1 c.wind ++ toBytes 1 c.exempt
  | .unlock mover => toBytes 1 mover
  | .lock mover => toBytes 1 mover
  | .move mover target profile => toBytes 1 mover ++ toBytes 3 target ++ toBytes 2 profile
  | .stop mover => toBytes 1 mover
  | .resetFault mover => toBytes 1 mover
  | .queryMover mover => toBytes 1 mover
  | .assignStation address mover role offset poll busyExp =>
    toBytes 1 address ++ toBytes 1 mover ++ toBytes 1 role ++ toBytes 3 offset ++ toBytes 2 poll ++ toBytes 1 busyExp
  | .unassignStation address => toBytes 1 address
  | .queryStation address view => toBytes 1 address ++ toBytes 1 view
  | .setAdmission limit => toBytes 1 limit
  | .setProving interval stale => toBytes 2 interval ++ toBytes 2 stale
  | .setWind w =>
    toBytes 2 w.scale0 ++ toBytes 2 w.scale1 ++ toBytes 2 w.scale2 ++ toBytes 1 w.window ++ toBytes 2 w.breezyQ ++
    toBytes 2 w.strongQ ++ toBytes 2 w.strongGust ++ toBytes 2 w.stormQ ++ toBytes 2 w.stormGust ++
    toBytes 1 w.hysteresis
  | .ackAlerts set => toBytes 1 set
  | _ => []

end Sys2Proof
end

