-- ==== Sys2Proof/Machine/Wire.lean ====
section
/-!
DEFINITION. The bytes of both links: the CRC (R138), command and answer frames of the field link (R135 to R138), request
and answer frames of the supervisory link (R173, R177), and the codes of coded values (R138, R178).
-/

namespace Sys2Proof.Machine

open Sys2Proof

/-! ### The CRC (R138) -/

/-- One step of the check: the register shifted left, with the polynomial 0x1021 when a 1 leaves it. -/
def crcShift (r : BitVec 16) : BitVec 16 := if r.msb then (r <<< 1) ^^^ 0x1021#16 else r <<< 1

/-- `n` steps of the check. -/
def crcShifts : Nat → BitVec 16 → BitVec 16
  | 0, r => r
  | n + 1, r => crcShifts n (crcShift r)

/-- The register after one more byte, most significant bit first. -/
def crcByte (r : BitVec 16) (b : Byte) : BitVec 16 := crcShifts 8 (r ^^^ (b.zeroExtend 16 <<< 8))

/-- The 16-bit CRC: initial value 0xFFFF, no reflection, no final exclusive-or (R138). -/
def crc16 (bytes : List Byte) : BitVec 16 := bytes.foldl crcByte 0xFFFF#16

/-- The CRC's two bytes, high byte first (R138, R173). -/
def crcBytes (bytes : List Byte) : List Byte := toBytes 2 ((crc16 bytes).toNat : Int)

/-! ### Field-link frames (R138) -/

/-- The command kind codes (R138). -/
def Command.kindCode (c : Command) : Nat :=
  match c with
  | .sample => 0x01
  | .drive _ _ => 0x02
  | .hold => 0x03
  | .ident => 0x04

/-- The speed a command carries; 0 for SAMPLE, HOLD and IDENT (R138). -/
def Command.speed (c : Command) : Int :=
  match c with
  | .drive v _ => v
  | _ => 0

/-- The release flag a command carries, clear for SAMPLE, HOLD and IDENT (R138). -/
def Command.releases (c : Command) : Bool :=
  match c with
  | .drive _ r => r
  | _ => false

/-- A command frame without its CRC (R138). -/
def commandBytes (address : Nat) (c : Command) (seq : Bool) : List Byte :=
  toBytes 1 (address : Int) ++ toBytes 1 ((c.kindCode + if seq then 128 else 0 : Nat) : Int) ++ toBytes 2 c.speed ++
    toBytes 1 (if c.releases then 1 else 0)

/-- A command frame of 7 bytes (R138). -/
def commandFrame (address : Nat) (c : Command) (seq : Bool) : List Byte :=
  commandBytes address c seq ++ crcBytes (commandBytes address c seq)

/-- The broadcast HOLD: a HOLD frame with address 0 and sequence bit 0 (R136). -/
def broadcastFrame : List Byte := commandFrame 0 .hold false

/-- How a transaction ends, before the match test: failed (no answer, a corrupt or a foreign answer), BUSY, or a REPORT
with its sequence bit (R140). -/
inductive Ending where
  | failed
  | busy
  | report (seq : Bool) (r : Report)
  deriving DecidableEq, Repr

/-- Brake state codes (R138). -/
def brakeOf (code : Nat) : Option Brake :=
  match code with
  | 0x01 => some .applied
  | 0x02 => some .released
  | 0x03 => some .transit
  | _ => none

/-- Capability codes (R138). -/
def capabilityOf (code : Nat) : Option Capability :=
  match code with
  | 0x01 => some .driveBrake
  | 0x02 => some .brakeOnly
  | _ => none

/-- The position field: `none` for a corrupt one, `some none` for the unknown marker 0xFFFFFF (R137, R138). -/
def positionOf (raw : Nat) : Option (Option Nat) :=
  if raw = 0xFFFFFF then some none else if raw ≤ 999999 then some (some raw) else none

/-- The CRC at the end of a frame matches the bytes before it. -/
def crcMatches (bytes : List Byte) : Bool :=
  decide (bytes.drop (bytes.length - 2) = crcBytes (bytes.take (bytes.length - 2)))

/-- The fields of a REPORT frame with correct CRC from the transaction's station (R137, R138). -/
def readReport (now : Time) (kind p1 p2 p3 v1 v2 brake fault : Byte) (capability : Option Byte) : Ending :=
  match positionOf (ofBytes [p1, p2, p3]), brakeOf brake.toNat with
  | some position, some b =>
    let report (c : Option Capability) : Ending :=
      .report (decide (128 ≤ kind.toNat))
        { position := position, speed := ofBytesSigned [v1, v2], brake := b, faultCode := fault.toNat
          capability := c, arrival := now }
    match capability with
    | none => report none
    | some c =>
      match capabilityOf c.toNat with
      | some k => report (some k)
      | none => .failed
  | _, _ => .failed

/-- An answer frame judged by itself (R135, R137): its length from its kind byte and the command it answers, later bytes
ignored, its CRC, its address and its fields. A corrupt or a foreign answer is a failed attempt (R140). -/
def readAnswer (now : Time) (address : Nat) (command : Command) (bytes : List Byte) : Ending :=
  match bytes with
  | [] => .failed
  | [_] => .failed
  | a :: kind :: _ =>
    if kind.toNat % 128 = 0x11 then
      if command = .ident then
        match bytes.take 12 with
        | [_, _, p1, p2, p3, v1, v2, b, f, c, _, _] =>
          if crcMatches (bytes.take 12) = true ∧ a.toNat = address then
            readReport now kind p1 p2 p3 v1 v2 b f (some c)
          else .failed
        | _ => .failed
      else
        match bytes.take 11 with
        | [_, _, p1, p2, p3, v1, v2, b, f, _, _] =>
          if crcMatches (bytes.take 11) = true ∧ a.toNat = address then
            readReport now kind p1 p2 p3 v1 v2 b f none
          else .failed
        | _ => .failed
    else if kind.toNat = 0x12 then
      if (bytes.take 4).length = 4 ∧ crcMatches (bytes.take 4) = true ∧ a.toNat = address then .busy else .failed
    else .failed

/-! ### Codes of the supervisory link (R177, R178) -/

/-- Table 11-1 (R177). -/
def Status.code (st : Status) : Nat :=
  match st with
  | .ok => 0x00
  | .partialGrant => 0x01
  | .done => 0x02
  | .refusedState => 0x10
  | .refusedRange => 0x11
  | .refusedConflict => 0x12
  | .refusedWind => 0x13
  | .refusedEstop => 0x14
  | .refusedConfig => 0x15
  | .refusedDirection => 0x16
  | .inUse => 0x17
  | .noRoom => 0x18
  | .badRequest => 0x1F

/-- Mover state codes (R178). -/
def MState.code (st : MState) : Nat :=
  match st with
  | .lockedOut => 0x00
  | .enrolling => 0x01
  | .parked => 0x02
  | .queued => 0x03
  | .starting => 0x04
  | .moving => 0x05
  | .held => 0x06
  | .stopping => 0x07
  | .faulted => 0x08

/-- Fault codes (R178). -/
def FaultCode.code (f : FaultCode) : Nat :=
  match f with
  | .estop => 0x10
  | .overrun => 0x11
  | .intrusion => 0x12
  | .skew => 0x13
  | .stationFault => 0x14
  | .stationLost => 0x15
  | .busyTimeout => 0x16
  | .startTimeout => 0x17
  | .stopTimeout => 0x18
  | .permitExpired => 0x19

/-- Stop reason codes (R178). -/
def StopReason.code (r : StopReason) : Nat :=
  match r with
  | .arrived => 0x01
  | .stopRequest => 0x02
  | .wind => 0x03
  | .authority => 0x04
  | .fault f => f.code

/-- Station state codes (R178). -/
def StState.code (st : StState) : Nat :=
  match st with
  | .dormant => 0x00
  | .active => 0x01
  | .busyHalted => 0x02
  | .lost => 0x03

/-- Role codes (Table 11-3). -/
def Role.code (r : Role) : Nat :=
  match r with
  | .lead => 0x01
  | .follow => 0x02
  | .brake => 0x03

/-- Brake state codes (R138, R178). -/
def Brake.code (b : Brake) : Nat :=
  match b with
  | .applied => 0x01
  | .released => 0x02
  | .transit => 0x03

/-- Capability codes, unknown 0x00 (R138, R178). -/
def capabilityCode (c : Option Capability) : Nat :=
  match c with
  | none => 0x00
  | some .driveBrake => 0x01
  | some .brakeOnly => 0x02

/-- Wind class codes (R178). -/
def ChannelClass.code (c : ChannelClass) : Nat :=
  match c with
  | .live k => k.rank
  | .dead => 0x04

/-- Base state codes (R178). -/
def BaseState.code (b : BaseState) : Nat :=
  match b with
  | .free => 0x00
  | .held => 0x01
  | .blocked => 0x02

/-- Direction codes: +1 as 0x01, −1 as 0xFF (R178). -/
def Dir.code (d : Dir) : Nat :=
  match d with
  | .plus => 0x01
  | .minus => 0xFF

/-- Stopping phase codes (R178). -/
def Phase.code (p : Phase) : Nat :=
  match p with
  | .rundown => 0x01
  | .braking => 0x02

/-! ### Answer items (R178) -/

/-- A number of one byte. -/
def u8 (n : Nat) : Item := ⟨1, (n : Int)⟩
/-- A number of two bytes. -/
def u16 (n : Nat) : Item := ⟨2, (n : Int)⟩
/-- A time, age, time remaining or waiting time: 4 bytes. -/
def u32 (n : Nat) : Item := ⟨4, (n : Int)⟩
/-- A speed or trim: 2 bytes, signed. -/
def s16 (z : Int) : Item := ⟨2, z⟩
/-- A position, bound or offset: 3 bytes, signed. -/
def s24 (z : Int) : Item := ⟨3, z⟩
/-- Yes or no, set or clear, asserted or released, open or closed: 1 byte. -/
def flag (b : Bool) : Item := u8 (if b then 1 else 0)

/-- An item with a condition of presence: a presence byte, and the item's own bytes when it is present. -/
def whenPresent {α : Type} (x : Option α) (show' : α → List Item) : List Item :=
  match x with
  | none => [u8 0]
  | some v => u8 1 :: show' v

/-- A list: the number of entries, then the entries. -/
def listed {α : Type} (xs : List α) (show' : α → List Item) : List Item := u8 xs.length :: xs.flatMap show'

/-- An enrol result, FOOTPRINT followed by its table index (R178). -/
def EnrolResult.items (r : EnrolResult) : List Item :=
  match r with
  | .ok => [u8 0x00]
  | .capability => [u8 0x01]
  | .brakeState => [u8 0x02]
  | .position => [u8 0x03]
  | .footprint index => [u8 0x04, u8 index]
  | .station => [u8 0x05]
  | .estop => [u8 0x06]
  | .aborted => [u8 0x07]
  | .timeout => [u8 0x08]

/-- A RESERVE stop reason, HELD_BY followed by the holder (R178). -/
def ReserveStop.items (r : ReserveStop) : List Item :=
  match r with
  | .trackEnd => [u8 0x01]
  | .heldBy h _ => [u8 0x02, u8 h.val]
  | .blocked _ => [u8 0x03]
  | .suspect _ => [u8 0x04]

/-- A RESERVE stopping index (R23). -/
def ReserveStop.index (r : ReserveStop) : Option Nat :=
  match r with
  | .trackEnd => none
  | .heldBy _ i => some i
  | .blocked i => some i
  | .suspect i => some i

/-- RELEASE stop cause codes (R178). -/
def ReleaseCause.code (c : ReleaseCause) : Nat :=
  match c with
  | .footprint => 0x01
  | .last => 0x02

/-- The bytes of answer items, in order (R178). -/
def itemBytes (items : List Item) : List Byte := items.flatMap fun i => toBytes i.size i.value

/-! ### Supervisory frames (R173, R177) -/

/-- The bytes of a frame from its length byte to the end of its body (R173). -/
def frameCore (tag code : Byte) (body : List Byte) : List Byte :=
  toBytes 1 ((body.length + 2 : Nat) : Int) ++ tag :: code :: body

/-- A frame of the supervisory link: start byte, the bytes the CRC covers, the CRC (R173). -/
def supervisoryFrame (tag code : Byte) (body : List Byte) : List Byte :=
  0x5A#8 :: (frameCore tag code body ++ crcBytes (frameCore tag code body))

/-- The answer frame: the request's tag, the status, the echoed request code and the answer items (R177). -/
def answerFrame (tag : Byte) (a : Answer) : List Byte :=
  supervisoryFrame tag (BitVec.ofNat 8 a.status.code) (a.code :: itemBytes a.items)

/-- A frame as it was received (R173, R174): tag, code and body when the bytes have the shape of a frame and the CRC
matches. -/
def readFrame (bytes : List Byte) : Option Frame :=
  if frameShape bytes = true ∧ crcMatches (bytes.drop 1) = true then
    match (bytes.drop 2).take (bytes.length - 4) with
    | tag :: code :: body => some { tag := tag, code := code, body := body }
    | _ => none
  else none

end Sys2Proof.Machine
end

