-- ==== Sys2Proof/Machine/Link.lean ====
section
/-!
DEFINITION. The Field Link Master (Chapter 8): the ranking of waiting requests (R148), the start of a transaction (R149),
and the judging of its ending (R140 to R147).
-/

namespace Sys2Proof.Machine

open Sys2Proof

/-! ### Choosing a station (R148) -/

/-- A station that may be polled: not DORMANT. -/
def State.polled (s : State) (a : StationNo) : Bool := decide ((s.station a).state ≠ .dormant)

/-- Rank 2: the station with a priority request. -/
def State.rankTwo (s : State) : Option StationNo :=
  (List.finRange 32).find? fun a => s.polled a && (s.linkOf a).priority

/-- Rank 3: the ACTIVE stations whose standing command is a HOLD with the urgent mark set, lowest address first. -/
def State.rankThree (s : State) : Option StationNo :=
  (List.finRange 32).find? fun a =>
    decide ((s.station a).state = .active) && decide ((s.station a).standing = some .hold) && (s.station a).urgent

/-- How long a station has been due: present when its due time is reached (R145). -/
def State.overdue (s : State) (a : StationNo) : Option Nat :=
  match (s.linkOf a).due with
  | some t => if s.polled a && reached s.now t then some (elapsed s.now t) else none
  | none => none

/-- Of a list of stations in address order, the one due earliest, the lowest address among equals. -/
def State.earliest (s : State) : List StationNo → Option StationNo
  | [] => none
  | a :: rest =>
    match s.overdue a, s.earliest rest with
    | none, r => r
    | some _, none => some a
    | some d, some b => if d < (s.overdue b).getD 0 then some b else some a

/-- Rank 4: the due stations, earliest due time first (R148). -/
def State.rankFour (s : State) : Option StationNo := s.earliest (List.finRange 32)

/-- The station whose request is started, of ranks 2 to 4 (R148). -/
def State.chosenStation (s : State) : Option StationNo :=
  match s.rankTwo with
  | some a => some a
  | none =>
    match s.rankThree with
    | some a => some a
    | none => s.rankFour

/-- The command a transaction to the station carries, with its sequence bit (R149). -/
def State.commandFor (s : State) (a : StationNo) : Option (Command × Bool) :=
  match (s.linkOf a).retry with
  | some r => some r
  | none =>
    match (s.station a).state with
    | .lost => some (.ident, (s.linkOf a).seq)
    | .busyHalted => some (.sample, (s.linkOf a).seq)
    | .active => (s.station a).standing.map fun c => (c, (s.linkOf a).seq)
    | .dormant => none

/-- The station record as a command to it starts: last sent written (R135), the urgent mark cleared by a HOLD (R149). -/
def Station.sent (c : Command) (now : Time) (st : Station) : Station :=
  { st with lastSent := some (c, now), urgent := if c = .hold then false else st.urgent }

/-- A transaction to the station starts with the command and bit (R135, R147, R149). -/
def State.startTransaction (s : State) (a : StationNo) (c : Command) (seq : Bool) : State :=
  let t : Transaction :=
    { station := a, command := c, seq := seq, generation := (s.station a).generation
      priority := (s.linkOf a).priority }
  let s1 := (s.modStation a (Station.sent c s.now)).modLink a fun l => { l with priority := false }
  { s1 with link := { s1.link with inFlight := some t, line := .command (commandFrame (stationAddress a) c seq) } }

/-! ### Judging an ending (R140 to R145) -/

/-- The match test: the generation is the one recorded, and the station is not DORMANT (R128). A station whose mover was locked
and unlocked again in the meantime, without a reassignment, passes both conditions, though R128 and R146 speak of the answer as
discarded; that the two conditions alone decide is the model's choice (log entry 29). -/
def State.matchesStation (s : State) (t : Transaction) : Bool :=
  decide ((s.station t.station).generation = t.generation) && s.polled t.station

/-- The link state after a failed attempt that is not a strike-out: the count raised, the command kept as the pending
retry, due at once (R142, R145). -/
def Link.failOnce (now : Time) (c : Command) (seq : Bool) (l : Link) : Link :=
  { l with
    attempts := l.attempts + 1, due := some now
    retry := match l.retry with | some r => some r | none => some (c, seq) }

/-- The due time after a strike-out, a success or a BUSY, by the station's state after the ending (R145). -/
def State.setDue (s : State) (a : StationNo) : State :=
  s.modLink a fun l =>
    { l with
      due :=
        match (s.station a).state with
        | .dormant => none
        | .active => some (after s.now (((s.station a).assign.map (·.poll)).getD 0))
        | _ => some (after s.now Config.recoveryInterval) }

/-- A failed attempt (R142), at the third in a row a strike-out (R143). -/
def State.failedAttempt (s : State) (t : Transaction) : State :=
  if 2 ≤ (s.linkOf t.station).attempts then
    ((s.modLink t.station fun l => { l with attempts := 3, retry := none }).strikeOut t.station).setDue t.station
  else s.modLink t.station (Link.failOnce s.now t.command t.seq)

/-- The busy limit of an exponent m: 2^(m−1) for m from 2, none for 0 and 1 (R144). -/
def busyLimit (m : Nat) : Option Nat := if m < 2 then none else some (2 ^ (m - 1))

/-- A busy count raised by one; it stops at 65,535 (R144). -/
def raiseBusy (n : Nat) : Nat := min 65535 (n + 1)

/-- The station's busy limit is reached by its busy count (R144). -/
def State.busyLimitReached (s : State) (a : StationNo) : Bool :=
  match busyLimit (((s.station a).assign.map (·.busyExp)).getD 0) with
  | some n => decide (n ≤ (s.linkOf a).busy)
  | none => false

/-- A matching BUSY answer (R144). -/
def State.busyAnswer (s : State) (a : StationNo) : State :=
  let s1 := s.modLink a fun l => { l with attempts := 0, busy := raiseBusy l.busy }
  if s1.busyLimitReached a then ((s1.modLink a fun l => { l with retry := none }).busyHalt a).setDue a
  else s1.setDue a

/-- A success: bit flipped, counts cleared, retry dropped, report filed (R141). -/
def State.success (s : State) (t : Transaction) (r : Report) : State :=
  ((s.modLink t.station fun l => { l with seq := !l.seq, attempts := 0, busy := 0, retry := none }).fileReport
    t.station (decide (t.command = .ident)) r).setDue t.station

/-- A matching ending judged in the order of R140. -/
def State.judge (s : State) (t : Transaction) (e : Ending) : State :=
  match e with
  | .failed => s.failedAttempt t
  | .busy => s.busyAnswer t.station
  | .report seq r =>
    if seq = t.seq then s.success t r
    else (s.modLink t.station fun l => { l with busy := 0 }).failedAttempt t

/-- The line idle and no transaction in flight (R135). -/
def State.endLine (s : State) : State := { s with link := { s.link with inFlight := none, line := .idle } }

/-- The end of the transaction in flight (R140): discarded when it does not match, judged otherwise, and then the notice of
the priority request it carried (R147). -/
def State.endTransaction (s : State) (t : Transaction) (e : Ending) : State :=
  if s.matchesStation t then
    let s1 := s.endLine.judge t e
    if t.priority then s1.noticeEnded t.station else s1
  else s.endLine

end Sys2Proof.Machine
end

