-- ==== Sys2Proof/Machine/FieldEvents.lean ====
section
/-!
DEFINITION. The events of the field link (Chapter 8): the start and end of frames, the three endings of a transaction, and
the emergency-stop broadcast.
-/

namespace Sys2Proof.Machine

open Sys2Proof

/-- TRANSACTION_START (R148, R149): with the line idle and no broadcast waiting, the station chosen by rank is sent its
command; nothing where no request of ranks 2 to 4 waits. -/
def State.transactionStart (s : State) : State :=
  if s.link.line = .idle ∧ s.link.broadcast = false then
    match s.chosenStation with
    | none => s
    | some a =>
      match s.commandFor a with
      | none => s
      | some (c, seq) => s.startTransaction a c seq
  else s

/-- COMMAND_FRAME_END (R135): the line released, the answer window open. -/
def State.commandFrameEnd (s : State) : State :=
  match s.link.line with
  | .command _ => { s with link := { s.link with line := .window } }
  | _ => s

/-- BROADCAST_HOLD_START (R136, R148, R150): with the flag set and the line idle; the flag is cleared. -/
def State.broadcastStart (s : State) : State :=
  if s.link.broadcast = true ∧ s.link.line = .idle then
    { s with link := { s.link with broadcast := false, line := .broadcast broadcastFrame } }
  else s

/-- BROADCAST_HOLD_END (R136): the line idle. -/
def State.broadcastEnd (s : State) : State :=
  match s.link.line with
  | .broadcast _ => { s with link := { s.link with line := .idle } }
  | _ => s

/-- A transaction ends while its answer window stands open (R135, R140); bytes that arrive while no answer is awaited are
ignored. `ending` reads the ending from the transaction. -/
def State.endWith (s : State) (ending : Transaction → Ending) : State :=
  match s.link.line, s.link.inFlight with
  | .window, some t => (s.endTransaction t (ending t)).updateAlerts
  | _, _ => s

/-- FIELD_ANSWER_RECEIVED (R135, R140): the answer's bytes are read and the ending judged. -/
def State.answerReceived (s : State) (bytes : List Byte) : State :=
  s.endWith fun t => readAnswer s.now (stationAddress t.station) t.command bytes

/-- The opening notice reaches the Field Link Master, when one is on its way: the broadcast flag is set (R150, R171). -/
def State.takeOpeningFieldLink (s : State) : State :=
  if s.openingsFieldLink = 0 then s
  else { s with openingsFieldLink := s.openingsFieldLink - 1, link := { s.link with broadcast := true } }

/-- TRANSACTION_START (R148, R149). -/
def execTransactionStart (s : State) : Host.Outcome State Fault Refusal := s.whileRunning State.transactionStart

/-- COMMAND_FRAME_END (R135). -/
def execCommandFrameEnd (s : State) : Host.Outcome State Fault Refusal := s.whileRunning State.commandFrameEnd

/-- BROADCAST_HOLD_START (R150). -/
def execBroadcastHoldStart (s : State) : Host.Outcome State Fault Refusal := s.whileRunning State.broadcastStart

/-- BROADCAST_HOLD_END (R136). -/
def execBroadcastHoldEnd (s : State) : Host.Outcome State Fault Refusal := s.whileRunning State.broadcastEnd

/-- FIELD_ANSWER_RECEIVED (R140). -/
def execFieldAnswerReceived (bytes : List Byte) (s : State) : Host.Outcome State Fault Refusal :=
  s.whileRunning fun s => s.answerReceived bytes

/-- ANSWER_BREAK (R135): a corrupt answer. -/
def execAnswerBreak (s : State) : Host.Outcome State Fault Refusal :=
  s.whileRunning fun s => s.endWith fun _ => .failed

/-- ANSWER_WINDOW_CLOSED (R135): no answer. -/
def execAnswerWindowClosed (s : State) : Host.Outcome State Fault Refusal :=
  s.whileRunning fun s => s.endWith fun _ => .failed

/-- OPENING_NOTICE_FIELD_LINK (R150). -/
def execOpeningNoticeFieldLink (s : State) : Host.Outcome State Fault Refusal :=
  s.whileRunning State.takeOpeningFieldLink

end Sys2Proof.Machine
end

