-- ==== Sys2Proof/Machine/AlertUnit.lean ====
section
/-!
DEFINITION. The Alert Unit's inputs and requests (Chapter 10), and the rain conditioning (R166); the full reset and its end
(R179).
-/

namespace Sys2Proof.Machine

open Sys2Proof

/-- A conditioning timer of the given duration that runs while its input stands at the level it waits for; a change to that
level starts it, a change from it stops it (R166, R169). -/
def conditioning (now : Time) (waiting : Bool) (duration : Nat) : Option Time :=
  if waiting then some (after now duration) else none

/-- RAIN_INPUT_CHANGE (R166). A level that is no change leaves the timer as it runs. -/
def Inputs.rainChange (now : Time) (high : Bool) (x : Inputs) : Inputs :=
  if high = x.rainPin then x
  else
    { x with
      rainPin := high
      rainTimer :=
        if x.rainActive then conditioning now (!high) Config.rainOffTime
        else conditioning now high Config.rainOnTime }

/-- ESTOP_INPUT_CHANGE (R169). -/
def Inputs.estopChange (now : Time) (high : Bool) (x : Inputs) : Inputs :=
  if high = x.estopPin then x
  else
    { x with
      estopPin := high
      chainTimer :=
        if x.chainOpen then conditioning now high Config.chainCloseTime
        else conditioning now (!high) Config.chainOpenTime }

/-- A change on an input while the reset input is low sets the level alone: no timer runs (R179). -/
def State.inputChange (s : State) (held running : Inputs → Inputs) : State :=
  { s with inputs := if s.resetLow then held s.inputs else running s.inputs }

/-- RAIN_ON_EXPIRY (R166): the state becomes active. -/
def State.rainOn (s : State) : State :=
  if s.inputs.rainActive = false ∧ expired s.now s.inputs.rainTimer = true then
    State.updateAlerts { s with inputs := { s.inputs with rainActive := true, rainTimer := none } }
  else s

/-- RAIN_OFF_EXPIRY (R166): the state becomes inactive. -/
def State.rainOff (s : State) : State :=
  if s.inputs.rainActive = true ∧ expired s.now s.inputs.rainTimer = true then
    State.updateAlerts { s with inputs := { s.inputs with rainActive := false, rainTimer := none } }
  else s

/-- CHAIN_OPEN (R169, R171): the chain open, the last opening written, both opening notices sent. -/
def State.chainOpens (s : State) : State :=
  if s.inputs.chainOpen = false ∧ expired s.now s.inputs.chainTimer = true then
    State.updateAlerts
      { s with
        inputs := { s.inputs with chainOpen := true, chainTimer := none, lastOpening := some s.now }
        openingsMovers := s.openingsMovers + 1, openingsFieldLink := s.openingsFieldLink + 1 }
  else s

/-- CHAIN_CLOSED (R169, R171). -/
def State.chainCloses (s : State) : State :=
  if s.inputs.chainOpen = true ∧ expired s.now s.inputs.chainTimer = true then
    State.updateAlerts { s with inputs := { s.inputs with chainOpen := false, chainTimer := none } }
  else s

/-- The alert set names the alert (R181). -/
def named (set : Nat) (n : AlertName) : Bool := set.testBit n.bit

/-- ACK_ALERTS (R170): the latched flag of each named alert that is not active is cleared. -/
def State.acknowledge (s : State) (set : Nat) : State :=
  { s with
    alerts := s.alerts.mapFlags fun n x => if named set n && !x.active then { x with latched := false } else x }

/-- ACK_ALERTS with its answer: the named alerts that stayed latched, by their Table 11-3 codes, and ATTN (R170). -/
def State.ackAlerts (s : State) (set : Nat) : State :=
  let s1 := s.acknowledge set
  s1.reply 0x71 .ok
    (listed (alertNames.filter fun n => named set n && (s1.alerts.get n).latched) (fun n => [u8 (2 ^ n.bit)]) ++
      [flag s1.attn])

/-- QUERY_ALERTS (R172). -/
def State.queryAlerts (s : State) : State :=
  s.reply 0x70 .ok
    (alertNames.flatMap (fun n => [flag (s.alerts.get n).active, flag (s.alerts.get n).latched]) ++
      [flag s.attn, flag s.inputs.chainOpen] ++ whenPresent s.inputs.lastOpening fun t => [u32 t.toNat])

/-- FULL_RESET (R179): every record at its reset value; the input levels are the outside world's and the queue of waiting
commands is not the part's. The reset input is low until RESET_INPUT_RELEASED. -/
def State.fullReset (s : State) : State :=
  { State.atReset false false with
    resetLow := true, pending := s.pending
    inputs := { (State.atReset false false).inputs with rainPin := s.inputs.rainPin, estopPin := s.inputs.estopPin } }

/-- RESET_INPUT_RELEASED (R1, R166, R169, R179): the time base starts from 0 and the timers begin to run, the conditioning
timers of inputs that are high among them. -/
def State.resetReleased (s : State) : State :=
  if s.resetLow then
    { s with
      resetLow := false, now := 0
      inputs :=
        { s.inputs with
          rainTimer := conditioning 0 s.inputs.rainPin Config.rainOnTime
          chainTimer := conditioning 0 s.inputs.estopPin Config.chainCloseTime } }
  else s

/-- RAIN_INPUT_CHANGE (R166). -/
def execRainInputChange (high : Bool) (s : State) : Host.Outcome State Fault Refusal :=
  .next (s.inputChange (fun x => { x with rainPin := high }) (Inputs.rainChange s.now high))

/-- RAIN_ON_EXPIRY (R166). -/
def execRainOnExpiry (s : State) : Host.Outcome State Fault Refusal := s.whileRunning State.rainOn

/-- RAIN_OFF_EXPIRY (R166). -/
def execRainOffExpiry (s : State) : Host.Outcome State Fault Refusal := s.whileRunning State.rainOff

/-- ESTOP_INPUT_CHANGE (R169). -/
def execEstopInputChange (high : Bool) (s : State) : Host.Outcome State Fault Refusal :=
  .next (s.inputChange (fun x => { x with estopPin := high }) (Inputs.estopChange s.now high))

/-- CHAIN_OPEN (R171). -/
def execChainOpen (s : State) : Host.Outcome State Fault Refusal := s.whileRunning State.chainOpens

/-- CHAIN_CLOSED (R169). -/
def execChainClosed (s : State) : Host.Outcome State Fault Refusal := s.whileRunning State.chainCloses

/-- ACK_ALERTS (R170). -/
def execAckAlerts (set : Nat) (s : State) : Host.Outcome State Fault Refusal :=
  s.whileRunning fun s => s.ackAlerts set

/-- QUERY_ALERTS (R172). -/
def execQueryAlerts (s : State) : Host.Outcome State Fault Refusal := s.whileRunning State.queryAlerts

/-- FULL_RESET (R179). -/
def execFullReset (s : State) : Host.Outcome State Fault Refusal := .next s.fullReset

/-- RESET_INPUT_RELEASED (R179). -/
def execResetInputReleased (s : State) : Host.Outcome State Fault Refusal := .next s.resetReleased

end Sys2Proof.Machine
end

