-- ==== Sys2Proof/Machine/Operands.lean ====
section
/-!
DEFINITION. The operands of requests: the codes of Table 11-3 and the range checks of DEFINE_TRACK (R5), CONFIGURE_MOVER
(R37, R38) and SET_WIND (R154, R164), in the order each rule gives. A failing operand is named by its ordinal (R178).
-/

namespace Sys2Proof.Machine

open Sys2Proof

/-- The end an operand names: PLUS 0x01 (true) or MINUS 0x02 (false) (Table 11-3). -/
def endOf (code : Nat) : Option Bool :=
  match code with
  | 0x01 => some true
  | 0x02 => some false
  | _ => none

/-- The role an operand names (Table 11-3). -/
def roleOf (code : Nat) : Option Role :=
  match code with
  | 0x01 => some .lead
  | 0x02 => some .follow
  | 0x03 => some .brake
  | _ => none

/-- The view an operand names: COMMANDED 0x01 (true) or REPORTED 0x02 (false) (Table 11-3). -/
def viewOf (code : Nat) : Option Bool :=
  match code with
  | 0x01 => some true
  | 0x02 => some false
  | _ => none

/-- A range check that names an operand by its ordinal (R178). -/
structure RangeCheck where
  ordinal : Nat
  holds : Bool
  deriving DecidableEq, Repr

/-- The ordinal of the first check that fails. -/
def firstFailure (checks : List RangeCheck) : Option Nat := (checks.find? fun c => !c.holds).map (·.ordinal)

/-- A value lies between two limits. -/
def within (lo n hi : Nat) : Bool := decide (lo ≤ n) && decide (n ≤ hi)

/-- CONFIGURE_MOVER's fields against their ranges, in the order of the table of R37; operand 1 is the mover number. -/
def configChecks (c : RawConfig) : List RangeCheck :=
  [⟨2, within 0 c.track 3⟩, ⟨3, within 0 c.plusExtent 200000⟩, ⟨4, within 0 c.minusExtent 200000⟩,
   ⟨5, within 1 c.vMax 1000⟩, ⟨6, within 1 c.accel 200⟩, ⟨7, within 5 c.brake 500⟩, ⟨8, within 0 c.standoff 10000⟩,
   ⟨9, within 1 c.tolerance 100⟩, ⟨10, within 1 c.creep 50⟩, ⟨11, within 0 c.gain 64⟩, ⟨12, within 0 c.trimLimit 100⟩,
   ⟨13, within 10 c.skewLimit 500⟩, ⟨14, within 100 c.resume 50000⟩, ⟨15, within 2 c.dwell 60⟩,
   ⟨16, within 200 c.permit 5000⟩, ⟨17, within 0 c.wind 7⟩, ⟨18, within 0 c.exempt 1⟩]

/-- The configuration as stored: a creep speed above v_max is stored as v_max (R37, R38). -/
def storedConfig (k : TrackNo) (c : RawConfig) : MoverConfig where
  track := k
  plusExtent := c.plusExtent
  minusExtent := c.minusExtent
  vMax := c.vMax
  accel := c.accel
  brake := c.brake
  standoff := c.standoff
  tolerance := c.tolerance
  creep := min c.creep c.vMax
  gain := c.gain
  trimLimit := c.trimLimit
  skewLimit := c.skewLimit
  resume := c.resume
  dwell := c.dwell
  permit := c.permit
  wind := c.wind
  exempt := decide (c.exempt = 1)

/-- SET_WIND's settings against their ranges and orders, in the order of R164; the order checks count as operands 11, 12
and 13 (R178). -/
def windChecks (w : WindSettings) : List RangeCheck :=
  [⟨1, within 1 w.scale0 4095⟩, ⟨2, within 1 w.scale1 4095⟩, ⟨3, within 1 w.scale2 4095⟩, ⟨4, within 0 w.window 255⟩,
   ⟨5, within 1 w.breezyQ 999⟩, ⟨6, within 1 w.strongQ 999⟩, ⟨7, within 1 w.strongGust 999⟩,
   ⟨8, within 1 w.stormQ 999⟩, ⟨9, within 1 w.stormGust 999⟩, ⟨10, within 0 w.hysteresis 99⟩,
   ⟨11, decide (w.breezyQ ≤ w.strongQ)⟩, ⟨12, decide (w.strongQ ≤ w.stormQ)⟩, ⟨13, decide (w.strongGust ≤ w.stormGust)⟩]

/-- The place of the first segment length out of range (R5 item 4). -/
def badLength (lengths : List Nat) : Option Nat := lengths.findIdx? fun n => !within 1000 n 60000

/-- What of DEFINE_TRACK is out of range (R5): the ordinal of the item, and for a length its place. -/
def trackRangeFailure (track start count : Nat) (lengths : List Nat) : Option (Nat × Option Nat) :=
  if !within 0 track 3 then some (1, none)
  else if !within 0 start 999999 then some (2, none)
  else if !within 1 count 64 then some (3, none)
  else
    match badLength lengths with
    | some place => some (4, some place)
    | none => if start + lengths.sum ≤ 1000000 then none else some (5, none)

end Sys2Proof.Machine
end

