-- ==== Sys2Proof/Machine/Holds.lean ====
section
/-!
DEFINITION. RESERVE and RELEASE (R22 to R27), and what arrives at the Reservation Unit from the proving sweep: findings
(R32) and trailing releases (R33).
-/

namespace Sys2Proof.Machine

open Sys2Proof

/-- The run items of a RESERVE or RELEASE answer: low and high place, their table indices, the authority end (R24, R27). -/
def runItems (t : Track) (r : Run) (d : Dir) : List Item :=
  [u8 r.low, u8 r.high, u8 (t.base + r.low), u8 (t.base + r.high), s24 (runAuthority t r d)]

/-- The checks RESERVE and RELEASE share, in their order (R22, R25 checks 1 to 4): the refusal, or the mover and the end. R22
gives RESERVE's refusals their items; that RELEASE's checks 1 to 4, whose items R25 does not name, carry the same is the model's
choice (log entry 13). -/
def State.runRequest (s : State) (mover endCode count : Nat) : Except (Status × List Item) (MoverNo × Bool) :=
  match moverNo mover with
  | none => .error (.refusedRange, [u8 1])
  | some m =>
    match endOf endCode with
    | none => .error (.refusedRange, [u8 2])
    | some atPlus =>
      if count = 0 ∨ 64 < count then .error (.refusedRange, [u8 3])
      else if (s.mover m).state.holding then .ok (m, atPlus)
      else .error (.refusedState, [u8 (s.mover m).state.code])

/-- The status of an accepted RESERVE (R24). -/
def reserveStatus (granted count : Nat) : Status :=
  if granted = count then .ok else if granted = 0 then .refusedConflict else .partialGrant

/-- The items of an accepted RESERVE's answer (R24). -/
def reserveItems (x : Reserving) (d : Dir) : List Item :=
  [u8 x.granted] ++ whenPresent x.stop ReserveStop.items ++ whenPresent (x.stop.bind ReserveStop.index) (fun i => [u8 i]) ++
    runItems x.track x.run d

/-- RESERVE (R22 to R24). A holding mover without run or track does not exist in any run (log entry 12). -/
def State.reserve (s : State) (mover endCode count : Nat) : State :=
  match s.runRequest mover endCode count with
  | .error (status, body) => s.reply 0x10 status body
  | .ok (m, atPlus) =>
    match s.run m, s.moverTrack m with
    | some r, some (k, t) =>
      let x := reserveLoop m atPlus count { track := t, run := r, granted := 0, stop := none }
      ((s.setTrack k (some x.track)).setRun m (some x.run)).reply 0x10 (reserveStatus x.granted count)
        (reserveItems x (s.mover m).dir)
    | _, _ => s.reply 0x10 .refusedState [u8 (s.mover m).state.code]

/-- R25 check 5: the named end is the front end of a mover in STARTING, MOVING or STOPPING. For a run of length 1 the one
segment is front and rear, whichever end is named. -/
def State.frontRelease (s : State) (m : MoverNo) (atPlus : Bool) : Bool :=
  (s.mover m).state.counting &&
  (decide ((s.mover m).dir = if atPlus then .plus else .minus) ||
   match s.run m with | some r => decide (r.low = r.high) | none => false)

/-- The items of an accepted RELEASE's answer (R27). -/
def releaseItems (x : Releasing) (d : Dir) : List Item :=
  [u8 x.released] ++ runItems x.track x.run d ++ whenPresent x.stop (fun c => [u8 c.1.code]) ++
    whenPresent x.stop (fun c => [u8 (x.track.base + c.2)])

/-- RELEASE (R25 to R27). -/
def State.release (s : State) (mover endCode count : Nat) : State :=
  match s.runRequest mover endCode count with
  | .error (status, body) => s.reply 0x11 status body
  | .ok (m, atPlus) =>
    if s.frontRelease m atPlus then s.reply 0x11 .refusedState [u8 0x03]
    else
      match s.run m, s.moverTrack m with
      | some r, some (k, t) =>
        let x :=
          releaseLoop (s.mover m).footprint atPlus count { track := t, run := r, released := 0, stop := none }
        ((s.setTrack k (some x.track)).setRun m (some x.run)).reply 0x11
          (if x.released = count then .ok else .inUse) (releaseItems x (s.mover m).dir)
      | _, _ => s.reply 0x11 .refusedState [u8 (s.mover m).state.code]

/-! ### Messages from the Proving Unit (R32, R33, R109) -/

/-- The table index a message concerns. -/
def SweepMessage.index (x : SweepMessage) : Nat :=
  match x with
  | .consistent i _ _ => i
  | .inconsistent i _ => i
  | .trailing i _ => i

/-- The first message on its way that concerns the index, and the messages without it: a finding is sent before the release
request that follows it (R109). -/
def firstMessage (index : Nat) : List SweepMessage → Option (SweepMessage × List SweepMessage)
  | [] => none
  | x :: rest =>
    if x.index = index then some (x, rest)
    else (firstMessage index rest).map fun y => (y.1, x :: y.2)

/-- The index still has the segment record a finding is on (R32). -/
def State.sameRecord (s : State) (index serial : Nat) : Bool :=
  match s.locate index with
  | some (_, t, _) => decide (t.serial = serial)
  | none => false

/-- A Consistent finding taken: suspect cleared, proven-at set (R32). -/
def Seg.prove (time : Time) (g : Seg) : Seg := { g with suspect := false, proven := some time }

/-- An Inconsistent finding taken: suspect set (R32). -/
def Seg.suspected (g : Seg) : Seg := { g with suspect := true }

/-- A Consistent finding on an index arrives (R32). -/
def State.takeConsistent (s : State) (index : Nat) : State :=
  match firstMessage index s.toReservation with
  | some (.consistent i serial time, rest) =>
    let s1 := { s with toReservation := rest }
    (if s.sameRecord i serial then s1.modSegAt i (Seg.prove time) else s1).updateAlerts
  | _ => s

/-- An Inconsistent finding on an index arrives (R32). -/
def State.takeInconsistent (s : State) (index : Nat) : State :=
  match firstMessage index s.toReservation with
  | some (.inconsistent i serial, rest) =>
    let s1 := { s with toReservation := rest }
    (if s.sameRecord i serial then s1.modSegAt i Seg.suspected else s1).updateAlerts
  | _ => s

/-- The conditions of a trailing release at its arrival (R33), with the run it shrinks. -/
def State.trailingRun (s : State) (index : Nat) (h : MoverNo) : Option Run :=
  match s.locate index, s.segAt index, s.run h with
  | some (k, _, p), some g, some r =>
    if g.holder = some h ∧ (match (s.mover h).config with | some c => decide (c.track = k) | none => false) = true ∧
        r.rear (s.mover h).dir = p ∧ r.low < r.high ∧
        ((s.mover h).state = .moving ∨ (s.mover h).state = .stopping) then
      some r
    else none
  | _, _, _ => none

/-- The run without its rear segment (R33). -/
def Run.dropRear (r : Run) (d : Dir) : Run :=
  match d with
  | .plus => { r with low := r.low + 1 }
  | .minus => { r with high := r.high - 1 }

/-- A trailing release request on an index arrives (R33). -/
def State.takeTrailing (s : State) (index : Nat) : State :=
  match firstMessage index s.toReservation with
  | some (.trailing i h, rest) =>
    let s1 := { s with toReservation := rest }
    match s.trailingRun i h with
    | some r => (s1.modSegAt i Seg.free).setRun h (some (r.dropRear (s.mover h).dir))
    | none => s1
  | _ => s

/-! ### The meanings -/

/-- RESERVE (R22 to R24). -/
def execReserve (mover endCode count : Nat) (s : State) : Host.Outcome State Fault Refusal :=
  s.whileRunning fun s => s.reserve mover endCode count

/-- RELEASE (R25 to R27). -/
def execRelease (mover endCode count : Nat) (s : State) : Host.Outcome State Fault Refusal :=
  s.whileRunning fun s => s.release mover endCode count

/-- CONSISTENT_FINDING (R32). -/
def execConsistentFinding (index : Nat) (s : State) : Host.Outcome State Fault Refusal :=
  s.whileRunning fun s => s.takeConsistent index

/-- INCONSISTENT_FINDING (R32). -/
def execInconsistentFinding (index : Nat) (s : State) : Host.Outcome State Fault Refusal :=
  s.whileRunning fun s => s.takeInconsistent index

/-- TRAILING_RELEASE (R33). -/
def execTrailingRelease (index : Nat) (s : State) : Host.Outcome State Fault Refusal :=
  s.whileRunning fun s => s.takeTrailing index

end Sys2Proof.Machine
end

