-- ==== Sys2Proof/Machine/Movers.lean ====
section
/-!
DEFINITION. The requests about movers (Chapter 3), the expiries of the mover timers (R43), the intrusion notice (R65) and
the opening notice to the Mover Controller (R66).
-/

namespace Sys2Proof.Machine

open Sys2Proof

/-! ### CONFIGURE_MOVER, UNLOCK, LOCK -/

/-- An accepted configuration in the mover record (R38). -/
def Mover.configure (c : MoverConfig) (x : Mover) : Mover :=
  { x with config := some c, target := none, profile := none }

/-- CONFIGURE_MOVER (R38). -/
def State.configureMover (s : State) (mover : Nat) (raw : RawConfig) : State :=
  match moverNo mover with
  | none => s.reply 0x20 .refusedRange []
  | some m =>
    if (s.mover m).state ≠ .lockedOut then s.reply 0x20 .refusedState [u8 (s.mover m).state.code]
    else
      match firstFailure (configChecks raw), trackNo raw.track with
      | none, some k =>
        (s.modMover m (Mover.configure (storedConfig k raw))).reply 0x20 .ok [u8 (storedConfig k raw).creep]
      | some item, _ => s.reply 0x20 .refusedRange [u8 item]
      | none, none => s.reply 0x20 .refusedRange [u8 2]

/-- The number of a mover's LEAD stations (R45 check 5). -/
def State.leadCount (s : State) (m : MoverNo) : Nat :=
  (s.stationsOf m).countP fun a => decide ((s.station a).role = some .lead)

/-- R45 check 6: the lowest station whose offset lies outside −minus extent to +plus extent. -/
def State.badOffset (s : State) (m : MoverNo) (c : MoverConfig) : Option StationNo :=
  (s.stationsOf m).find? fun a =>
    match (s.station a).assign with
    | some x => decide (x.offset < -(c.minusExtent : Int) ∨ (c.plusExtent : Int) < x.offset)
    | none => false

/-- The checks of UNLOCK after the mover number (R45 checks 2 to 6). -/
def State.unlockRefusal (s : State) (m : MoverNo) : Option (Status × List Item) :=
  if (s.mover m).state ≠ .lockedOut then some (.refusedState, [u8 (s.mover m).state.code])
  else if s.inputs.chainOpen then some (.refusedEstop, [])
  else
    match (s.mover m).config with
    | none => some (.refusedConfig, [u8 0xFF])
    | some c =>
      if s.leadCount m ≠ 1 then some (.refusedConfig, [u8 (s.leadCount m)])
      else (s.badOffset m c).map fun a => (.refusedConfig, [u8 (stationAddress a)])

/-- The entry to ENROLLING: the mover record (R46), its stations ACTIVE on IDENT (R123), their link state (R146). -/
def State.enterEnrolling (s : State) (m : MoverNo) : State :=
  (s.modMover m (Mover.toEnrolling s.now)).modServiceOf m Station.toActive (Link.toActive s.now)

/-- UNLOCK (R45, R46). -/
def State.unlock (s : State) (mover : Nat) : State :=
  match moverNo mover with
  | none => s.reply 0x21 .refusedRange []
  | some m =>
    match s.unlockRefusal m with
    | some (status, body) => s.reply 0x21 status body
    | none => ((s.enterEnrolling m).reply 0x21 .ok []).updateAlerts

/-- LOCK of a mover by its state (R64). -/
def State.lock (s : State) (mover : Nat) : State :=
  match moverNo mover with
  | none => s.reply 0x22 .refusedRange []
  | some m =>
    match (s.mover m).state with
    | .parked | .faulted => ((s.lockRun m).reply 0x22 .ok []).updateAlerts
    | .enrolling => ((s.lockOut m (some .aborted)).reply 0x22 .ok []).updateAlerts
    | .lockedOut => s.reply 0x22 .ok []
    | st => s.reply 0x22 .refusedState [u8 st.code]

/-! ### MOVE (R61, R62) -/

/-- R61 check 4: the footprint at the target lies on the track, in the sense of R10. That no further check holds the target to the
positions of R1, 0 to 999,999, is the model's choice (log entry 30): a mover with plus extent 0 and minus extent above 0 may be sent
to 1,000,000, the end position of a track that reaches so far. -/
def targetFits (t : Track) (c : MoverConfig) (target : Nat) : Bool :=
  t.liesOn ((target : Int) - c.minusExtent) ((target : Int) + c.plusExtent)

/-- The direction of a MOVE request (R61). -/
def requestDir (target : Nat) (reference : Int) : Dir := if reference < (target : Int) then .plus else .minus

/-- The checks of MOVE after the mover number, in their order (R61 checks 2 to 7): the answer that ends the request. That DONE
carries no item is the model's choice (log entry 13): R61 has the answer give the profile speed as stored, and DONE stores none.
That these are all the checks, so that a target of 1,000,000 is not refused for its value alone (R1, R181), is the model's choice
too (log entry 30). -/
def State.moveRefusal (s : State) (m : MoverNo) (c : MoverConfig) (t : Track) (target profile : Nat) :
    Option (Status × List Item) :=
  if profile = 0 then some (.refusedRange, [])
  else if !targetFits t c target then some (.refusedRange, [])
  else if s.stormBound m then some (.refusedWind, [])
  else if s.inputs.chainOpen then some (.refusedEstop, [])
  else if targetDistance target ((s.mover m).reference.getD 0) ≤ c.tolerance then some (.done, [])
  else none

/-- Target and profile speed set (R62). -/
def Mover.retarget (target profile : Nat) (x : Mover) : Mover :=
  { x with target := some target, profile := some profile }

/-- The answer items of a MOVE taken in PARKED or HELD: the profile speed as stored, the resulting state, and the queue place
for QUEUED (R61, R62). -/
def State.moveItems (s : State) (m : MoverNo) (profile : Nat) : List Item :=
  [u16 profile, u8 (s.mover m).state.code] ++ whenPresent (s.queuePlace m) fun p => [u8 p]

/-- A MOVE that passed the checks, by the mover's state (R62); `profile` is the speed as stored. -/
def State.moveByState (s : State) (m : MoverNo) (target profile : Nat) : State :=
  let d := requestDir target ((s.mover m).reference.getD 0)
  match (s.mover m).state with
  | .parked | .held =>
    let s1 := (s.modMover m fun x => { x.retarget target profile with dir := d }).requestAdmission m
    s1.reply 0x23 .ok (s1.moveItems m profile)
  | .queued | .starting | .moving =>
    if d = (s.mover m).dir then (s.modMover m (Mover.retarget target profile)).reply 0x23 .ok [u16 profile]
    else s.reply 0x23 .refusedDirection []
  | _ => s.reply 0x23 .refusedState []

/-- MOVE (R61, R62). A profile speed above v_max is clamped to v_max. -/
def State.move (s : State) (mover target profile : Nat) : State :=
  match moverNo mover with
  | none => s.reply 0x23 .refusedRange []
  | some m =>
    if !(s.mover m).state.holding then s.reply 0x23 .refusedState []
    else
      match (s.mover m).config, s.moverTrack m with
      | some c, some (_, t) =>
        match s.moveRefusal m c t target profile with
        | some (status, body) => s.reply 0x23 status body
        | none => s.moveByState m target (min profile c.vMax)
      | _, _ => s.reply 0x23 .refusedRange []

/-! ### STOP, STOP_ALL, RESET_FAULT -/

/-- STOP (R63). -/
def State.stop (s : State) (mover : Nat) : State :=
  match moverNo mover with
  | none => s.reply 0x24 .refusedRange []
  | some m => (s.stopMover m).reply 0x24 .ok [u8 ((s.stopMover m).mover m).state.code]

/-- STOP applied to every mover, 0 to 11 (R63). -/
def State.stopEvery (s : State) : State := (List.finRange 12).foldl State.stopMover s

/-- STOP_ALL (R63): the body lists the movers whose state changed. -/
def State.stopAll (s : State) : State :=
  let s1 := s.stopEvery
  s1.reply 0x25 .ok
    (listed ((List.finRange 12).filter fun m => decide ((s1.mover m).state ≠ (s.mover m).state)) fun m => [u8 m.val])

/-- R60 check 4: the lowest station of the mover that is LOST or BUSY_HALTED. -/
def State.failedStation (s : State) (m : MoverNo) : Option StationNo :=
  (s.stationsOf m).find? fun a =>
    decide ((s.station a).state = .lost) || decide ((s.station a).state = .busyHalted)

/-- R60 check 5: the lowest station of the mover without latest report, or whose latest report is not APPLIED. -/
def State.unbrakedStation (s : State) (m : MoverNo) : Option StationNo :=
  (s.stationsOf m).find? fun a =>
    match (s.station a).report with
    | some r => decide (r.brake ≠ .applied)
    | none => true

/-- The brake-state byte of R60 check 5; a free value for a station without report (log entry 14). -/
def brakeItem (r : Option Report) : Item :=
  match r with
  | some x => u8 x.brake.code
  | none => u8 Config.freeBrakeByte.toNat

/-- The checks of RESET_FAULT after the mover number (R60 checks 2 to 5). -/
def State.resetRefusal (s : State) (m : MoverNo) : Option (Status × List Item) :=
  if s.inputs.chainOpen then some (.refusedEstop, [])
  else if (s.mover m).state ≠ .faulted then some (.refusedState, [u8 (s.mover m).state.code])
  else
    match s.failedStation m with
    | some a => some (.refusedState, [u8 (stationAddress a), u8 (s.station a).state.code])
    | none =>
      (s.unbrakedStation m).map fun a =>
        (.refusedState, [u8 (stationAddress a), brakeItem (s.station a).report])

/-- A FAULTED mover returned to PARKED: the fault code absent, the stop reason kept, HOLD standing (R60, R41). -/
def State.clearFault (s : State) (m : MoverNo) : State :=
  (s.modMover m fun x => { Mover.toParked none x with fault := none }).standAll m .hold false

/-- RESET_FAULT (R60). -/
def State.resetFault (s : State) (mover : Nat) : State :=
  match moverNo mover with
  | none => s.reply 0x26 .refusedRange []
  | some m =>
    match s.resetRefusal m with
    | some (status, body) => s.reply 0x26 status body
    | none => ((s.clearFault m).reply 0x26 .ok []).updateAlerts

/-! ### QUERY_MOVER (R36, R68) -/

/-- The configuration fields, each of the size of the operand that writes it (R37, R178). -/
def configItems (c : Option MoverConfig) : List Item :=
  whenPresent c (fun c => [u8 c.track.val]) ++ whenPresent c (fun c => [s24 c.plusExtent]) ++
    whenPresent c (fun c => [s24 c.minusExtent]) ++ whenPresent c (fun c => [u16 c.vMax]) ++
    whenPresent c (fun c => [u8 c.accel]) ++ whenPresent c (fun c => [u16 c.brake]) ++
    whenPresent c (fun c => [u16 c.standoff]) ++ whenPresent c (fun c => [u8 c.tolerance]) ++
    whenPresent c (fun c => [u8 c.creep]) ++ whenPresent c (fun c => [u8 c.gain]) ++
    whenPresent c (fun c => [u8 c.trimLimit]) ++ whenPresent c (fun c => [u16 c.skewLimit]) ++
    whenPresent c (fun c => [u16 c.resume]) ++ whenPresent c (fun c => [u8 c.dwell]) ++
    whenPresent c (fun c => [u16 c.permit]) ++ whenPresent c (fun c => [u8 c.wind]) ++ whenPresent c (fun c => [flag c.exempt])

/-- A mover's stations with their roles, in address order (R68). -/
def State.stationItems (s : State) (m : MoverNo) : List Item :=
  listed (s.stationsOf m) fun a =>
    [u8 (stationAddress a), u8 (match (s.station a).role with | some r => r.code | none => 0)]

/-- A timer's name and the time remaining to its expiry, when it runs (R68, R178). -/
def timerItem (now : Time) (name : Nat) (t : Option Time) : List (Nat × Nat) :=
  match t with
  | some e => [(name, elapsed e now)]
  | none => []

/-- The running timers (R68): a list of those that run, with its count and no presence byte. R68 gives each timer a condition of
presence, and R178 gives a list a count; that the list alone carries the condition is the model's choice (log entry 11). -/
def timerItems (now : Time) (x : Mover) : List Item :=
  listed
    (timerItem now 1 x.enrolTimer ++ timerItem now 2 x.startTimer ++ timerItem now 3 x.permitTimer ++
      timerItem now 4 x.dwellTimer ++ timerItem now 5 x.stopTimer)
    fun y => [u8 y.1, u32 y.2]

/-- The progress set, where R68 reports it. -/
def progressShown (x : Mover) : Option (List StationNo) :=
  match x.state with
  | .enrolling | .starting => some x.progress
  | .stopping => if x.phase = some .braking then some x.progress else none
  | _ => none

/-- The number of suspect segments in a run (R36). -/
def suspectsInRun (t : Track) (r : Run) : Nat :=
  ((t.segs.zipIdx).countP fun g => g.1.suspect && decide (r.low ≤ g.2) && decide (g.2 ≤ r.high))

/-- The hold items (R36). -/
def State.holdItems (s : State) (m : MoverNo) : List Item :=
  let r := s.run m
  let rt := r.bind fun r => (s.moverTrack m).map fun t => (r, t.2)
  [flag r.isNone] ++ whenPresent r (fun r => [u8 r.low]) ++ whenPresent r (fun r => [u8 r.high]) ++
    whenPresent rt (fun x => [u8 (x.2.base + x.1.low)]) ++ whenPresent rt (fun x => [u8 (x.2.base + x.1.high)]) ++
    whenPresent r (fun r => [u8 (r.high - r.low + 1)]) ++
    whenPresent r (fun _ => [u8 (match (s.mover m).dir with | .plus => 0x01 | .minus => 0x02)]) ++
    whenPresent (s.authorityEnd m) (fun e => [s24 e]) ++ whenPresent rt (fun x => [u8 (suspectsInRun x.2 x.1)])

/-- QUERY_MOVER's items (R68). -/
def State.moverItems (s : State) (m : MoverNo) : List Item :=
  let x := s.mover m
  [u8 x.state.code, flag x.config.isSome] ++ configItems x.config ++ s.stationItems m ++
    whenPresent x.target (fun t => [s24 t]) ++ whenPresent x.profile (fun p => [u16 p]) ++ [u8 x.dir.code] ++
    whenPresent x.reference (fun r => [s24 r]) ++ whenPresent x.leadTime (fun t => [u32 (elapsed s.now t)]) ++
    whenPresent x.footprint (fun f => [s24 f.1, s24 f.2]) ++
    whenPresent (x.config.bind fun c => x.reference.map fun r => frontPosition c x.dir r) (fun f => [s24 f]) ++
    [s16 x.velocity] ++ whenPresent x.phase (fun p => [u8 p.code]) ++ whenPresent x.stopReason (fun r => [u8 r.code]) ++
    whenPresent x.fault (fun f => [u8 f.code]) ++ whenPresent x.enrol EnrolResult.items ++
    whenPresent (progressShown x) (fun p => listed p fun a => [u8 (stationAddress a)]) ++ timerItems s.now x ++
    whenPresent (s.queuePlace m) (fun p => [u8 p]) ++ whenPresent x.config (fun c => [u8 (s.wind.classFor c).rank]) ++
    s.holdItems m

/-- QUERY_MOVER (R68). -/
def State.queryMover (s : State) (mover : Nat) : State :=
  match moverNo mover with
  | none => s.reply 0x27 .refusedRange []
  | some m => s.reply 0x27 .ok (s.moverItems m)

/-! ### Timer expiries (R43) -/

/-- The expiry of a mover's timer acts in the state the timer runs in, when the timer runs and its expiry time is reached; a
stopped or restarted timer's expiry does nothing (R43). -/
def State.onExpiry (s : State) (m : MoverNo) (runsIn : MState) (timer : Option Time) (f : State → State) : State :=
  if (s.mover m).state = runsIn ∧ expired s.now timer = true then (f s).updateAlerts else s

/-! ### The intrusion notice and the opening (R65, R66, R109) -/

/-- An intrusion notice arrives: it is one of those on their way, and a mover in service is faulted with INTRUSION; in
LOCKED_OUT, ENROLLING and FAULTED it does nothing (R65, R109). -/
def State.takeIntrusion (s : State) (m : MoverNo) : State :=
  if m ∈ s.toMovers then
    (State.enterFaulted { s with toMovers := s.toMovers.erase m } m .intrusion).updateAlerts
  else s

/-- What the opening does to one mover (R66). -/
def State.openMover (s : State) (m : MoverNo) : State :=
  if (s.mover m).state = .enrolling then s.enterLockedOut m (some .estop) else s.enterFaulted m .estop

/-- The stations of enrolling movers whose priority requests the opening drops (R146). -/
def State.droppedAtOpening (s : State) : List StationNo :=
  (List.finRange 12).flatMap fun m => if (s.mover m).state = .enrolling then s.droppedRequests m else []

/-- The opening at the Mover Controller and the Arbiter, as one event (R66, R76): the queue emptied, so that no exit admits,
and every mover acted on. -/
def State.openMovers (s : State) : State :=
  ((List.finRange 12).foldl State.openMover
    { s with arbiter := { s.arbiter with queue := [] } }).giveNotices s.droppedAtOpening

/-- The opening notice reaches the Mover Controller, when one is on its way (R66, R171). -/
def State.takeOpeningMovers (s : State) : State :=
  if s.openingsMovers = 0 then s
  else (State.openMovers { s with openingsMovers := s.openingsMovers - 1 }).updateAlerts

/-! ### The meanings -/

/-- CONFIGURE_MOVER (R38). -/
def execConfigureMover (mover : Nat) (cfg : RawConfig) (s : State) : Host.Outcome State Fault Refusal :=
  s.whileRunning fun s => s.configureMover mover cfg

/-- UNLOCK (R45, R46). -/
def execUnlock (mover : Nat) (s : State) : Host.Outcome State Fault Refusal := s.whileRunning fun s => s.unlock mover

/-- LOCK (R64). -/
def execLock (mover : Nat) (s : State) : Host.Outcome State Fault Refusal := s.whileRunning fun s => s.lock mover

/-- MOVE (R61, R62). -/
def execMove (mover target profile : Nat) (s : State) : Host.Outcome State Fault Refusal :=
  s.whileRunning fun s => s.move mover target profile

/-- STOP (R63). -/
def execStop (mover : Nat) (s : State) : Host.Outcome State Fault Refusal := s.whileRunning fun s => s.stop mover

/-- STOP_ALL (R63). -/
def execStopAll (s : State) : Host.Outcome State Fault Refusal := s.whileRunning fun s => s.stopAll

/-- RESET_FAULT (R60). -/
def execResetFault (mover : Nat) (s : State) : Host.Outcome State Fault Refusal :=
  s.whileRunning fun s => s.resetFault mover

/-- QUERY_MOVER (R68). -/
def execQueryMover (mover : Nat) (s : State) : Host.Outcome State Fault Refusal :=
  s.whileRunning fun s => s.queryMover mover

/-- ENROL_TIMER_EXPIRY (R43, R48). -/
def execEnrolTimerExpiry (m : MoverNo) (s : State) : Host.Outcome State Fault Refusal :=
  s.whileRunning fun s => s.onExpiry m .enrolling (s.mover m).enrolTimer fun s => s.lockOut m (some .timeout)

/-- START_TIMER_EXPIRY (R43, R52). -/
def execStartTimerExpiry (m : MoverNo) (s : State) : Host.Outcome State Fault Refusal :=
  s.whileRunning fun s => s.onExpiry m .starting (s.mover m).startTimer fun s => s.enterFaulted m .startTimeout

/-- PERMIT_TIMER_EXPIRY (R43, R56). -/
def execPermitTimerExpiry (m : MoverNo) (s : State) : Host.Outcome State Fault Refusal :=
  s.whileRunning fun s => s.onExpiry m .moving (s.mover m).permitTimer fun s => s.enterFaulted m .permitExpired

/-- DWELL_TIMER_EXPIRY (R43, R55). -/
def execDwellTimerExpiry (m : MoverNo) (s : State) : Host.Outcome State Fault Refusal :=
  s.whileRunning fun s => s.onExpiry m .moving (s.mover m).dwellTimer fun s => s.enterStopping m .authority

/-- STOP_TIMER_EXPIRY (R43, R58). -/
def execStopTimerExpiry (m : MoverNo) (s : State) : Host.Outcome State Fault Refusal :=
  s.whileRunning fun s => s.onExpiry m .stopping (s.mover m).stopTimer fun s => s.enterFaulted m .stopTimeout

/-- INTRUSION_NOTICE (R65, R109). -/
def execIntrusionNotice (m : MoverNo) (s : State) : Host.Outcome State Fault Refusal :=
  s.whileRunning fun s => s.takeIntrusion m

/-- OPENING_NOTICE_MOVERS (R66, R76). -/
def execOpeningNoticeMovers (s : State) : Host.Outcome State Fault Refusal :=
  s.whileRunning fun s => s.takeOpeningMovers

end Sys2Proof.Machine
end

