-- ==== Sys2Proof/Machine/Settings.lean ====
section
/-!
DEFINITION. The requests of the Admission Arbiter (R78, R79) and of the Proving Unit (R115, R116), the proving timer's expiry
(R101), and IDENTIFY (R180).
-/

namespace Sys2Proof.Machine

open Sys2Proof

/-- SET_ADMISSION (R78): the clamped limit against the count and the present limit; a raised limit admits. -/
def State.setAdmission (s : State) (limit : Nat) : State :=
  let v := clampNat limit 1 12
  if v < s.arbiter.count then s.reply 0x40 .inUse [u8 s.arbiter.count, u8 s.arbiter.limit]
  else if v = s.arbiter.limit then s.reply 0x40 .ok []
  else
    let raised := decide (s.arbiter.limit < v)
    let s1 : State := { s with arbiter := { s.arbiter with limit := v } }
    let s2 := if raised then s1.admitQueue else s1
    let admitted := s.arbiter.queue.take (s.arbiter.queue.length - s2.arbiter.queue.length)
    (s2.reply 0x40 .ok (u8 v :: listed admitted fun e => [u8 e.mover.val])).updateAlerts

/-- QUERY_QUEUE (R79). -/
def State.queryQueue (s : State) : State :=
  s.reply 0x41 .ok
    ([u8 s.arbiter.limit, u8 s.arbiter.count] ++
      listed ((List.finRange 12).filter fun m => (s.mover m).state.counting) (fun m => [u8 m.val]) ++
      [u8 s.arbiter.queue.length] ++ listed s.arbiter.queue fun e => [u8 e.mover.val, u32 (elapsed s.now e.since)])

/-- SET_PROVING (R115): both values clamped and stored, the proving timer restarted. -/
def State.setProving (s : State) (interval stale : Nat) : State :=
  let i := clampNat interval 5 1000
  let l := clampNat stale 100 5000
  State.reply { s with proving := { s.proving with interval := i, stale := l, expiry := after s.now i } } 0x50 .ok
    [u16 i, u16 l]

/-- QUERY_PROVING (R116). -/
def State.queryProving (s : State) : State :=
  let p := s.proving
  s.reply 0x51 .ok
    ([u16 p.interval, u16 p.stale, u8 p.cursor, flag p.step.isSome] ++ whenPresent p.step (fun q => [u8 q.index]) ++
      whenPresent p.step (fun q => [u8 (stationAddress q.awaited)]) ++
      whenPresent p.step (fun q => [u32 (elapsed s.now q.since)]) ++ whenPresent p.last (fun t => [u32 t.toNat]) ++
      [u32 (elapsed p.expiry s.now)])

/-- The proving timer's expiry: restarted at once; a step begins unless one is pending (R101, R103). -/
def State.provingExpiry (s : State) : State :=
  if reached s.now s.proving.expiry then
    let s1 : State := { s with proving := { s.proving with expiry := after s.now s.proving.interval } }
    if s.proving.step.isSome then s1 else s1.beginStep
  else s

/-- IDENTIFY (R180): the part code CV4210, the revision A, and the capacities. -/
def identifyItems : List Item :=
  [u8 0x43, u8 0x56, u8 0x34, u8 0x32, u8 0x31, u8 0x30, u8 0x41, u8 4, u8 128, u8 12, u8 32, u8 8, u8 12, u8 3, u8 8,
    u8 2, u8 250]

/-- SET_ADMISSION (R78). -/
def execSetAdmission (limit : Nat) (s : State) : Host.Outcome State Fault Refusal :=
  s.whileRunning fun s => s.setAdmission limit

/-- QUERY_QUEUE (R79). -/
def execQueryQueue (s : State) : Host.Outcome State Fault Refusal := s.whileRunning State.queryQueue

/-- SET_PROVING (R115). -/
def execSetProving (interval stale : Nat) (s : State) : Host.Outcome State Fault Refusal :=
  s.whileRunning fun s => s.setProving interval stale

/-- QUERY_PROVING (R116). -/
def execQueryProving (s : State) : Host.Outcome State Fault Refusal := s.whileRunning State.queryProving

/-- PROVING_TIMER_EXPIRY (R101). -/
def execProvingTimerExpiry (s : State) : Host.Outcome State Fault Refusal := s.whileRunning State.provingExpiry

/-- IDENTIFY (R180). -/
def execIdentify (s : State) : Host.Outcome State Fault Refusal := s.whileRunning fun s => s.reply 0x7F .ok identifyItems

end Sys2Proof.Machine
end

