-- ==== Sys2Proof/Machine/Stations.lean ====
section
/-!
DEFINITION. The requests about stations: ASSIGN_STATION (R119, R120), UNASSIGN_STATION (R121), QUERY_STATION (R132).
-/

namespace Sys2Proof.Machine

open Sys2Proof

/-- The mover a station is assigned to, when that mover is in any state other than LOCKED_OUT (R119 check 7, R121). -/
def State.servesInService (s : State) (a : StationNo) : Option MoverNo :=
  match (s.station a).assign with
  | some x => if (s.mover x.mover).state ≠ .lockedOut then some x.mover else none
  | none => none

/-- R119 check 8: the LEAD station of the mover at another address. -/
def State.otherLead (s : State) (a : StationNo) (m : MoverNo) : Option StationNo :=
  (s.stationsOf m).find? fun b => decide (b ≠ a) && decide ((s.station b).role = some .lead)

/-- Checks 6 to 9 of ASSIGN_STATION (R119). -/
def State.assignRefusal (s : State) (a : StationNo) (m : MoverNo) (role : Role) : Option (Status × List Item) :=
  if (s.mover m).state ≠ .lockedOut then some (.refusedState, [u8 m.val, u8 (s.mover m).state.code])
  else
    match s.servesInService a with
    | some old => some (.refusedState, [u8 old.val, u8 (s.mover old).state.code])
    | none =>
      match (if role = .lead then s.otherLead a m else none) with
      | some b => some (.refusedConfig, [u8 (stationAddress b)])
      | none =>
        if !(s.station a).serves m && decide (8 ≤ (s.stationsOf m).length) then
          some (.refusedConfig, [u8 (s.stationsOf m).length])
        else none

/-- A station record after an assignment change: the assignment replaced, the generation advanced, the service record
reset (R120, R121). -/
def Station.reassign (x : Option Assignment) (st : Station) : Station :=
  { st with
    assign := x, generation := st.generation + 1, capability := none, report := none, trim := 0, state := .dormant
    standing := none, urgent := false }

/-- An assignment change, with the Field Link Master told (R120, R121, R146). -/
def State.changeAssignment (s : State) (a : StationNo) (x : Option Assignment) : State :=
  (s.modStation a (Station.reassign x)).modLink a Link.reassigned

/-- The range checks of ASSIGN_STATION, in their order (R119 checks 1 to 5). -/
def assignRange (address mover role : Nat) (offset : Int) (busyExp : Nat) :
    Except Nat (StationNo × MoverNo × Role) :=
  match stationNo address with
  | none => .error 1
  | some a =>
    match moverNo mover with
    | none => .error 2
    | some m =>
      match roleOf role with
      | none => .error 3
      | some r =>
        if offset < -200000 ∨ 200000 < offset then .error 4
        else if 16 < busyExp then .error 6
        else .ok (a, m, r)

/-- ASSIGN_STATION (R119, R120). The poll interval is clamped to 10 to 1,000 ms. -/
def State.assignStation (s : State) (address mover role : Nat) (offset : Int) (poll busyExp : Nat) : State :=
  match assignRange address mover role offset busyExp with
  | .error item => s.reply 0x30 .refusedRange [u8 item]
  | .ok (a, m, r) =>
    match s.assignRefusal a m r with
    | some (status, body) => s.reply 0x30 status body
    | none =>
      let s1 := s.changeAssignment a
        (some { mover := m, role := r, offset := offset, poll := clampNat poll 10 1000, busyExp := busyExp })
      (s1.reply 0x30 .ok [u16 (clampNat poll 10 1000), u8 (s1.station a).generation.toNat]).updateAlerts

/-- UNASSIGN_STATION (R121). That the OK of a station that is not assigned has an empty body is the model's choice (log entry 11):
R121 names the generation for a change only. -/
def State.unassignStation (s : State) (address : Nat) : State :=
  match stationNo address with
  | none => s.reply 0x31 .refusedRange []
  | some a =>
    match s.servesInService a with
    | some m => s.reply 0x31 .refusedState [u8 m.val, u8 (s.mover m).state.code]
    | none =>
      if (s.station a).assign.isNone then s.reply 0x31 .ok []
      else
        let s1 := s.changeAssignment a none
        (s1.reply 0x31 .ok [u8 (s1.station a).generation.toNat]).updateAlerts

/-- A standing command's items: its kind, with speed and release flag for DRIVE (R132, R178). -/
def standingItems (c : Option Command) : List Item :=
  match c with
  | none => [u8 0x00]
  | some (.drive v r) => [u8 0x02, s16 v, flag r]
  | some c => [u8 c.kindCode]

/-- The common items of QUERY_STATION (R132). -/
def State.stationCommon (s : State) (a : StationNo) : List Item :=
  let st := s.station a
  [u8 st.state.code, u8 st.generation.toNat] ++ whenPresent st.assign (fun x => [u8 x.mover.val]) ++
    whenPresent st.assign (fun x => [u8 x.role.code]) ++ whenPresent st.assign (fun x => [s24 x.offset]) ++
    whenPresent st.assign (fun x => [u16 x.poll]) ++ whenPresent st.assign (fun x => [u8 x.busyExp]) ++
    [u8 (capabilityCode st.capability), u8 (s.linkOf a).attempts, u16 (s.linkOf a).busy]

/-- The items of the COMMANDED view (R132). -/
def State.commandedItems (s : State) (a : StationNo) : List Item :=
  let st := s.station a
  standingItems st.standing ++ [flag st.urgent] ++
    whenPresent st.lastSent (fun x => [u8 x.1.kindCode, s16 x.1.speed, flag x.1.releases]) ++
    whenPresent st.lastSent (fun x => [u32 (elapsed s.now x.2)]) ++ [s16 st.trim]

/-- A latest report's items: an unknown position is 0xFFFFFF (R132, R178). -/
def reportItems (r : Report) : List Item :=
  [s24 (match r.position with | some p => (p : Int) | none => 0xFFFFFF), s16 r.speed, u8 r.brake.code,
    u8 r.faultCode] ++ whenPresent r.capability (fun c => [u8 (capabilityCode (some c))])

/-- The items of the REPORTED view (R132). -/
def State.reportedItems (s : State) (a : StationNo) : List Item :=
  let st := s.station a
  whenPresent st.report reportItems ++ whenPresent st.report (fun r => [u32 (elapsed s.now r.arrival)])

/-- QUERY_STATION (R132). -/
def State.queryStation (s : State) (address view : Nat) : State :=
  match stationNo address, viewOf view with
  | some a, some true => s.reply 0x32 .ok (s.stationCommon a ++ s.commandedItems a)
  | some a, some false => s.reply 0x32 .ok (s.stationCommon a ++ s.reportedItems a)
  | _, _ => s.reply 0x32 .refusedRange []

/-- ASSIGN_STATION (R119, R120). -/
def execAssignStation (address mover role : Nat) (offset : Int) (poll busyExp : Nat) (s : State) :
    Host.Outcome State Fault Refusal :=
  s.whileRunning fun s => s.assignStation address mover role offset poll busyExp

/-- UNASSIGN_STATION (R121). -/
def execUnassignStation (address : Nat) (s : State) : Host.Outcome State Fault Refusal :=
  s.whileRunning fun s => s.unassignStation address

/-- QUERY_STATION (R132). -/
def execQueryStation (address view : Nat) (s : State) : Host.Outcome State Fault Refusal :=
  s.whileRunning fun s => s.queryStation address view

end Sys2Proof.Machine
end

