-- ==== Sys2Proof/Machine/TrackLayout.lean ====
section
/-!
DEFINITION. The requests of the Layout Table and of segment blocking (Chapter 1).
-/

namespace Sys2Proof.Machine

open Sys2Proof

/-- R6 check 1: the lowest mover, in any state other than LOCKED_OUT, whose configuration names track k. -/
def State.trackUser (s : State) (k : TrackNo) : Option MoverNo :=
  (List.finRange 12).find? fun m =>
    (match (s.mover m).config with | some c => decide (c.track = k) | none => false) &&
    decide ((s.mover m).state ≠ .lockedOut)

/-- R6 check 2: the lowest table index of the track whose segment is HELD or BLOCKED. -/
def Track.inUse (t : Track) : Option Nat := (t.segs.findIdx? fun g => decide (g.base ≠ .free)).map (t.base + ·)

/-- The state checks of R6 in their order: the status and answer body of a refusal. -/
def State.trackRefusal (s : State) (k : TrackNo) : Option (Status × List Item) :=
  match s.trackUser k with
  | some m => some (.refusedState, [u8 m.val])
  | none =>
    match (s.track k).bind Track.inUse with
    | some index => some (.inUse, [u8 index])
    | none => none

/-- A new segment record (R7 step 4). -/
def Seg.fresh (len : Nat) : Seg := { len := len, holder := none, blocked := false, suspect := false, proven := none }

/-- The new track record of an accepted DEFINE_TRACK (R2, R7). -/
def newTrack (start base serial : Nat) (lengths : List Nat) : Track where
  start := start
  base := base
  serial := serial
  segs := lengths.map Seg.fresh

/-- The replacement of a track record, made as one event once R5 and R6 are passed (R7). -/
def State.allocateTrack (s : State) (k : TrackNo) (start : Nat) (lengths : List Nat) : State :=
  let rest := tset s.tracks k none
  match firstFit rest lengths.length with
  | none => s.reply 0x01 .noRoom [u8 (largestFreeRun rest)]
  | some base =>
    let t := newTrack start base s.serial lengths
    (State.reply { s with tracks := tset s.tracks k (some t), serial := s.serial + 1 } 0x01 .ok
      [u8 base, s24 t.endPos]).updateAlerts

/-- DEFINE_TRACK (R5 to R7). A list that disagrees with its count is a malformed body, BAD_REQUEST (R5, R176). -/
def State.defineTrack (s : State) (track start count : Nat) (lengths : List Nat) : State :=
  if lengths.length ≠ count then
    s.reply 0x01 .badRequest [u8 0x02, u8 (expectedTrackLength count).toNat]
  else
    match trackRangeFailure track start count lengths, trackNo track with
    | some (item, place), _ =>
      s.reply 0x01 .refusedRange (u8 item :: (match place with | some p => [u8 p] | none => []))
    | none, none => s.reply 0x01 .refusedRange [u8 1]
    | none, some k =>
      match s.trackRefusal k with
      | some (status, body) => s.reply 0x01 status body
      | none => s.allocateTrack k start lengths

/-- REMOVE_TRACK (R8). -/
def State.removeTrack (s : State) (track : Nat) : State :=
  match trackNo track with
  | none => s.reply 0x02 .refusedRange []
  | some k =>
    match s.trackRefusal k with
    | some (status, body) => s.reply 0x02 status body
    | none =>
      match s.track k with
      | none => s.reply 0x02 .ok [u8 0]
      | some t => (State.reply (s.setTrack k none) 0x02 .ok [u8 t.count]).updateAlerts

/-- The number of a track's segments in a base state (R17). -/
def Track.countBase (t : Track) (b : BaseState) : Nat := t.segs.countP fun g => decide (g.base = b)

/-- QUERY_TRACK's items (R17). -/
def State.trackItems (s : State) (t : Option Track) : List Item :=
  [flag t.isSome] ++ whenPresent t (fun t => [s24 t.start]) ++ whenPresent t (fun t => [u8 t.count]) ++
    whenPresent t (fun t => [s24 t.endPos]) ++ whenPresent t (fun t => [u8 t.base]) ++
    whenPresent t (fun t => listed t.segs fun g => [u16 g.len]) ++ whenPresent t (fun t => [u8 (t.countBase .free)]) ++
    whenPresent t (fun t => [u8 (t.countBase .held)]) ++ whenPresent t (fun t => [u8 (t.countBase .blocked)]) ++
    whenPresent t (fun t => [u8 (t.segs.countP (·.suspect))]) ++ [u8 (unallocatedCount s.tracks)] ++
    [u8 (largestFreeRun s.tracks)] ++ whenPresent (largestFreeStart s.tracks) (fun i => [u8 i])

/-- QUERY_TRACK (R17). -/
def State.queryTrack (s : State) (track : Nat) : State :=
  match trackNo track with
  | none => s.reply 0x03 .refusedRange []
  | some k => s.reply 0x03 .ok (s.trackItems (s.track k))

/-- BLOCK_SEGMENT (R14, R15). -/
def State.blockSegment (s : State) (index : Nat) : State :=
  if 127 < index then s.reply 0x04 .refusedRange []
  else
    match s.segAt index with
    | none => s.reply 0x04 .refusedState []
    | some g =>
      match g.holder with
      | some h => s.reply 0x04 .inUse [u8 h.val]
      | none => (s.modSegAt index fun g => { g with blocked := true }).reply 0x04 .ok []

/-- UNBLOCK_SEGMENT (R14, R16). -/
def State.unblockSegment (s : State) (index : Nat) : State :=
  if 127 < index then s.reply 0x05 .refusedRange []
  else
    match s.segAt index with
    | none => s.reply 0x05 .refusedState []
    | some _ => (s.modSegAt index fun g => { g with blocked := false }).reply 0x05 .ok []

/-- QUERY_SEGMENT's items after the table index (R18). -/
def State.segmentItems (s : State) (index : Nat) : List Item :=
  let at? := s.locate index
  let g := s.segAt index
  let proven := g.bind (·.proven)
  [flag at?.isSome] ++ whenPresent at? (fun x => [u8 x.1.val]) ++ whenPresent at? (fun x => [u8 x.2.2]) ++
    whenPresent at? (fun x => [s24 (x.2.1.segStart x.2.2)]) ++ whenPresent at? (fun x => [s24 (x.2.1.segEnd x.2.2)]) ++
    whenPresent g (fun g => [u8 g.base.code]) ++ whenPresent (g.bind (·.holder)) (fun h => [u8 h.val]) ++
    whenPresent g (fun g => [flag g.suspect]) ++ whenPresent proven (fun t => [u32 t.toNat]) ++
    whenPresent proven (fun t => [u32 (elapsed s.now t)])

/-- QUERY_SEGMENT (R18). -/
def State.querySegment (s : State) (index : Nat) : State :=
  if 127 < index then s.reply 0x06 .refusedRange [] else s.reply 0x06 .ok (u8 index :: s.segmentItems index)

/-! ### The meanings -/

/-- DEFINE_TRACK (R5 to R7). -/
def execDefineTrack (track start count : Nat) (lengths : List Nat) (s : State) : Host.Outcome State Fault Refusal :=
  s.whileRunning fun s => s.defineTrack track start count lengths

/-- REMOVE_TRACK (R8). -/
def execRemoveTrack (track : Nat) (s : State) : Host.Outcome State Fault Refusal :=
  s.whileRunning fun s => s.removeTrack track

/-- QUERY_TRACK (R17). -/
def execQueryTrack (track : Nat) (s : State) : Host.Outcome State Fault Refusal :=
  s.whileRunning fun s => s.queryTrack track

/-- BLOCK_SEGMENT (R14, R15). -/
def execBlockSegment (index : Nat) (s : State) : Host.Outcome State Fault Refusal :=
  s.whileRunning fun s => s.blockSegment index

/-- UNBLOCK_SEGMENT (R14, R16). -/
def execUnblockSegment (index : Nat) (s : State) : Host.Outcome State Fault Refusal :=
  s.whileRunning fun s => s.unblockSegment index

/-- QUERY_SEGMENT (R18). -/
def execQuerySegment (index : Nat) (s : State) : Host.Outcome State Fault Refusal :=
  s.whileRunning fun s => s.querySegment index

end Sys2Proof.Machine
end

