-- ==== Sys2Proof/Machine/Wind.lean ====
section
/-!
DEFINITION. The Wind Unit (Chapter 9): pulses, samples, windows and classes, the class notice to the Mover Controller, and
SET_WIND and QUERY_WIND.
-/

namespace Sys2Proof.Machine

open Sys2Proof

/-- A rising edge on the pulse input: the counter stops at 65,535 (R155). -/
def Channel.pulse (c : Channel) : Channel := { c with pulses := min 65535 (c.pulses + 1) }

/-- A channel's scale (R154). -/
def scaleOf (w : WindSettings) (ch : ChannelNo) : Nat :=
  match ch.val with
  | 0 => w.scale0
  | 1 => w.scale1
  | _ => w.scale2

/-- raw = min(999, floor(count × k_ch / 64)) (R155). -/
def rawSample (count scale : Nat) : Nat := min 999 (count * scale / 64)

/-- The accumulators cleared and gust seen reset (R156, R158, R164). -/
def Channel.clearWindow (c : Channel) : Channel :=
  { c with samples := 0, sum := 0, sumSq := 0, winMin := none, winMax := none, gustSeen := false }

/-- The candidate class of a completed window (R159). -/
def candidateClass (w : WindSettings) (qmean max : Nat) : WindClass :=
  if w.stormQ ≤ qmean ∨ w.stormGust ≤ max then .storm
  else if w.strongQ ≤ qmean ∨ w.strongGust ≤ max then .strong
  else if w.breezyQ ≤ qmean then .breezy
  else .calm

/-- The class one level down when the fall test passes, and the class itself otherwise (R160). -/
def fallClass (w : WindSettings) (qmean : Nat) (present : WindClass) : WindClass :=
  match present with
  | .storm => if qmean < w.stormQ - w.hysteresis then .strong else .storm
  | .strong => if qmean < w.strongQ - w.hysteresis then .breezy else .strong
  | .breezy => if qmean < w.breezyQ - w.hysteresis then .calm else .breezy
  | .calm => .calm

/-- The class at a window completion (R160). -/
def judgedClass (w : WindSettings) (qmean max : Nat) (provisional : Bool) (present : WindClass) : WindClass :=
  let candidate := candidateClass w qmean max
  if provisional then candidate
  else if present.rank ≤ candidate.rank then candidate
  else fallClass w qmean present

/-- The statistics of a window of `n` samples (R158). -/
def Channel.windowStats (c : Channel) (n : Nat) : WindStats where
  mean := c.sum / n
  qmean := isqrt (c.sumSq / n)
  min := c.winMin.getD 0
  max := c.winMax.getD 0

/-- A raw sample added to the window (R158 steps 1 to 3). -/
def Channel.accumulate (raw : Nat) (c : Channel) : Channel :=
  { c with
    samples := c.samples + 1, sum := c.sum + raw, sumSq := c.sumSq + raw * raw
    winMin := some (match c.winMin with | some x => min x raw | none => raw)
    winMax := some (match c.winMax with | some x => max x raw | none => raw) }

/-- A gust trip when the sample is at or above the storm gust threshold (R161). -/
def Channel.trip (w : WindSettings) (raw : Nat) (c : Channel) : Channel :=
  if w.stormGust ≤ raw then
    { c with gustSeen := true, gustTrip := true, cls := .live .storm, provisional := false }
  else c

/-- The class at a window completion; a DEAD channel completes no window (R160). -/
def Channel.judged (w : WindSettings) (st : WindStats) (c : Channel) : ChannelClass :=
  match c.cls with
  | .live k => .live (judgedClass w st.qmean st.max c.provisional k)
  | .dead => .dead

/-- A window completed when the count equals N + 1 (R158 step 5). -/
def Channel.complete (w : WindSettings) (c : Channel) : Channel :=
  if c.samples = w.window + 1 then
    let st := c.windowStats (w.window + 1)
    Channel.clearWindow
      { c with
        stats := some st, available := true, cls := c.judged w st, provisional := false
        gustTrip := c.gustTrip && c.gustSeen }
  else c

/-- A sample taken into the present window (R158). -/
def Channel.take (w : WindSettings) (raw : Nat) (c : Channel) : Channel :=
  Channel.complete w (Channel.trip w raw (Channel.accumulate raw c))

/-- Entry to DEAD (R156). -/
def Channel.die (c : Channel) : Channel :=
  { c.clearWindow with
    dead := true, cls := .dead, gustTrip := false, available := false, stats := none, provisional := false }

/-- The return from DEAD (R157). -/
def Channel.revive (c : Channel) : Channel :=
  { c.clearWindow with dead := false, cls := .live .storm, provisional := true }

/-- One channel's sample with its status line as it stands (R155 to R158). The next falls 250 ms later. -/
def Channel.sample (w : WindSettings) (scale : Nat) (statusHigh : Bool) (c : Channel) : Channel :=
  let raw := rawSample c.pulses scale
  let c1 := { c with pulses := 0, raw := some raw, statusPin := statusHigh, due := after c.due Config.samplePeriod }
  if statusHigh then (if c1.dead then c1.revive else c1).take w raw
  else if c1.dead then c1
  else c1.die

/-- Channel ch's record changed by `f`. -/
def State.modChannel (s : State) (ch : ChannelNo) (f : Channel → Channel) : State :=
  { s with wind := { s.wind with channels := tset s.wind.channels ch (f (tget s.wind.channels ch)) } }

/-- Mover m selects the channel. -/
def State.selects (s : State) (m : MoverNo) (ch : ChannelNo) : Bool :=
  match (s.mover m).config with
  | some c => c.selects ch
  | none => false

/-- The class notice of a channel: every mover that selects it derives its class again and reacts (R162, R67). -/
def State.classNotice (s : State) (ch : ChannelNo) : State :=
  (List.finRange 12).foldl (fun s m => if s.selects m ch then s.stormReact m else s) s

/-- WIND_SAMPLE of one channel, at its expiry of the sample timer (R155, R162). -/
def State.windSample (s : State) (ch : ChannelNo) (statusHigh : Bool) : State :=
  let c := tget s.wind.channels ch
  if reached s.now c.due then
    let s1 := s.modChannel ch (Channel.sample s.wind.settings (scaleOf s.wind.settings ch) statusHigh)
    (if (tget s1.wind.channels ch).cls ≠ c.cls then s1.classNotice ch else s1).updateAlerts
  else s

/-- SET_WIND (R164). -/
def State.setWind (s : State) (w : WindSettings) : State :=
  match firstFailure (windChecks w) with
  | some item => s.reply 0x60 .refusedRange [u8 item]
  | none =>
    State.reply
      { s with
        wind :=
          { settings := w
            channels := tmap (fun _ c => if c.dead then c else c.clearWindow) s.wind.channels } }
      0x60 .ok
      [u16 w.scale0, u16 w.scale1, u16 w.scale2, u8 w.window, u16 w.breezyQ, u16 w.strongQ, u16 w.strongGust,
        u16 w.stormQ, u16 w.stormGust, u8 w.hysteresis]

/-- A channel's items (R165). -/
def Channel.items (c : Channel) : List Item :=
  let st := if c.available then c.stats else none
  whenPresent c.raw (fun r => [u16 r]) ++ [flag c.available] ++ whenPresent st (fun x => [u16 x.mean]) ++
    whenPresent st (fun x => [u16 x.qmean]) ++ whenPresent st (fun x => [u16 x.min]) ++ whenPresent st (fun x => [u16 x.max]) ++
    [u8 c.cls.code, flag c.provisional, flag c.dead, flag c.gustTrip, u8 c.samples]

/-- QUERY_WIND (R165): the channels W0, W1 and W2, each whole, then the settings. -/
def State.queryWind (s : State) : State :=
  let w := s.wind.settings
  s.reply 0x61 .ok
    ((List.finRange 3).flatMap (fun ch => (tget s.wind.channels ch).items) ++
      [u16 w.scale0, u16 w.scale1, u16 w.scale2, u8 w.window, u16 w.breezyQ, u16 w.strongQ, u16 w.strongGust,
        u16 w.stormQ, u16 w.stormGust, u8 w.hysteresis])

/-- ANEMOMETER_PULSE (R155). -/
def execAnemometerPulse (ch : ChannelNo) (s : State) : Host.Outcome State Fault Refusal :=
  s.whileRunning fun s => s.modChannel ch Channel.pulse

/-- WIND_SAMPLE (R155 to R162). -/
def execWindSample (ch : ChannelNo) (statusHigh : Bool) (s : State) : Host.Outcome State Fault Refusal :=
  s.whileRunning fun s => s.windSample ch statusHigh

/-- SET_WIND (R164). -/
def execSetWind (settings : WindSettings) (s : State) : Host.Outcome State Fault Refusal :=
  s.whileRunning fun s => s.setWind settings

/-- QUERY_WIND (R165). -/
def execQueryWind (s : State) : Host.Outcome State Fault Refusal := s.whileRunning State.queryWind

end Sys2Proof.Machine
end

