-- ==== Sys2Proof/Machine/Port.lean ====
section
/-!
DEFINITION. The Supervisory Port (Chapter 11): reception, the receive buffer, the taking of a request and its hand-over to the
owning block, and the sending of answers.
-/

namespace Sys2Proof.Machine

open Sys2Proof

/-- A decoded request handed to the block that owns it, which acts on it whole and returns its answer (R176 step 3). A
command that is no request does not come from `decodeRequest`. -/
def State.serve (s : State) (i : Instr) : State :=
  match i with
  | .defineTrack track start count lengths => s.defineTrack track start count lengths
  | .removeTrack track => s.removeTrack track
  | .queryTrack track => s.queryTrack track
  | .blockSegment index => s.blockSegment index
  | .unblockSegment index => s.unblockSegment index
  | .querySegment index => s.querySegment index
  | .reserve mover endCode count => s.reserve mover endCode count
  | .release mover endCode count => s.release mover endCode count
  | .configureMover mover cfg => s.configureMover mover cfg
  | .unlock mover => s.unlock mover
  | .lock mover => s.lock mover
  | .move mover target profile => s.move mover target profile
  | .stop mover => s.stop mover
  | .stopAll => s.stopAll
  | .resetFault mover => s.resetFault mover
  | .queryMover mover => s.queryMover mover
  | .assignStation address mover role offset poll busyExp => s.assignStation address mover role offset poll busyExp
  | .unassignStation address => s.unassignStation address
  | .queryStation address view => s.queryStation address view
  | .setAdmission limit => s.setAdmission limit
  | .queryQueue => s.queryQueue
  | .setProving interval stale => s.setProving interval stale
  | .queryProving => s.queryProving
  | .setWind settings => s.setWind settings
  | .queryWind => s.queryWind
  | .queryAlerts => s.queryAlerts
  | .ackAlerts set => s.ackAlerts set
  | .identify => s.reply 0x7F .ok identifyItems
  | _ => s

/-- The items of a BAD_REQUEST answer after the echoed code (R177). -/
def badItems (why : BadReason) : List Item :=
  match why with
  | .unknownCode => [u8 0x01]
  | .length expected => [u8 0x02, u8 expected.toNat]

/-- A frame taken: decoded, and handed over or answered BAD_REQUEST (R176). -/
def State.actOn (s : State) (f : Frame) : State :=
  match decodeRequest f.code f.body with
  | .ok i => s.serve i
  | .error why => s.reply f.code .badRequest (badItems why)

/-- The port, idle, takes the head frame, if any waits; the answer is framed with the request's tag and begins to be sent
(R176, R177). -/
def State.takeNext (s : State) : State :=
  match s.port.sending, s.port.buffer with
  | none, f :: rest =>
    let s1 := State.actOn { s with port := { s.port with buffer := rest } } f
    { s1 with port := { s1.port with sending := s1.answer.map (answerFrame f.tag) } }
  | _, _ => s

/-- A received frame joins the tail of the buffer when fewer than two wait there, and is discarded otherwise (R175). -/
def Port.offer (f : Frame) (p : Port) : Port :=
  if p.buffer.length < 2 then { p with buffer := p.buffer ++ [f] } else p

/-- The receiver back to hunting (R174). -/
def State.hunt (s : State) : State := { s with port := { s.port with receiver := .hunting } }

/-- A length below 2 or above 252, judged at the length byte (R174). -/
def dropsAtLength (got : List Byte) : Bool :=
  match got with
  | [_, len] => decide (len.toNat < 2 ∨ 252 < len.toNat)
  | _ => false

/-- A frame grown by a byte (R174): dropped at a bad length byte, ended when it has as many bytes as its length calls for, and
otherwise still under way. An ended frame is handed on to be judged. -/
def Receiver.grown (got : List Byte) (spoiled : Bool) : Receiver × Option (List Byte × Bool) :=
  if dropsAtLength got then (.hunting, none)
  else if frameShape got then (.hunting, some (got, spoiled))
  else (.inFrame got spoiled, none)

/-- The receiver at one byte (R173, R174): hunting it ignores every byte but a 0x5A, and a byte error outside a frame; in a frame
the byte belongs to the frame, and a byte error spoils it. -/
def Receiver.next (rx : Receiver) (b : LineByte) : Receiver × Option (List Byte × Bool) :=
  match rx with
  | .hunting => if b.error = false ∧ b.value = 0x5A#8 then (.inFrame [b.value] false, none) else (.hunting, none)
  | .inFrame got spoiled => Receiver.grown (got ++ [b.value]) (spoiled || b.error)

/-- An ended frame judged (R174 to R176): with a byte error or a wrong CRC it is discarded; any other is offered to the buffer,
and an idle port takes the head frame at once. -/
def State.frameEnded (s : State) (bytes : List Byte) (spoiled : Bool) : State :=
  match readFrame bytes with
  | some f => if spoiled then s else State.takeNext { s with port := s.port.offer f }
  | none => s

/-- One byte from the line (R174). -/
def State.receiveByte (s : State) (b : LineByte) : State :=
  let s1 := { s with port := { s.port with receiver := (s.port.receiver.next b).1 } }
  match (s.port.receiver.next b).2 with
  | some (bytes, spoiled) => s1.frameEnded bytes spoiled
  | none => s1

/-- Bytes from the line, one after the other (R174). -/
def State.receive (s : State) (line : List LineByte) : State := line.foldl State.receiveByte s

/-- ANSWER_SENT (R176): the port idle again, the next waiting frame taken. Nothing when no answer is being sent. -/
def State.answerSent (s : State) : State :=
  match s.port.sending with
  | some _ => State.takeNext { s with port := { s.port with sending := none } }
  | none => s

/-- FRAME_RECEIVED (R174): the receiver takes the bytes one by one, the last among them. Bytes that end inside a frame leave it in the
frame (log entry 8). -/
def execFrameReceived (line : List LineByte) (last : LineByte) (s : State) : Host.Outcome State Fault Refusal :=
  s.whileRunning fun s => s.receive (line ++ [last])

/-- FRAME_LENGTH_DROP (R174): the receiver takes the bytes one by one, and the length byte that comes last drops its frame. -/
def execFrameLengthDrop (line : List LineByte) (s : State) : Host.Outcome State Fault Refusal :=
  s.whileRunning fun s => s.receive line

/-- FRAME_GAP_TIMEOUT (R174): the gap discards a frame under way, and the receiver hunts from the byte that ends the gap. -/
def execFrameGapTimeout (s : State) : Host.Outcome State Fault Refusal := s.whileRunning State.hunt

/-- ANSWER_SENT (R176). -/
def execAnswerSent (s : State) : Host.Outcome State Fault Refusal := s.whileRunning State.answerSent

end Sys2Proof.Machine
end

