-- ==== Sys2Proof/Machine/Dispatch.lean ====
section
/-!
DEFINITION. The dispatch: one arm per command, each one direct call of its meaning.
-/

namespace Sys2Proof.Machine

open Sys2Proof

/-- The effect of a command on everything but the queue of waiting commands. -/
def exec (i : Instr) (s : State) : Host.Outcome State Fault Refusal :=
  match i with
  | .fullReset => Sys2Proof.Machine.execFullReset s
  | .frameReceived line last => Sys2Proof.Machine.execFrameReceived line last s
  | .frameLengthDrop line => Sys2Proof.Machine.execFrameLengthDrop line s
  | .frameGapTimeout => Sys2Proof.Machine.execFrameGapTimeout s
  | .answerSent => Sys2Proof.Machine.execAnswerSent s
  | .defineTrack track start count lengths => Sys2Proof.Machine.execDefineTrack track start count lengths s
  | .removeTrack track => Sys2Proof.Machine.execRemoveTrack track s
  | .queryTrack track => Sys2Proof.Machine.execQueryTrack track s
  | .blockSegment index => Sys2Proof.Machine.execBlockSegment index s
  | .unblockSegment index => Sys2Proof.Machine.execUnblockSegment index s
  | .querySegment index => Sys2Proof.Machine.execQuerySegment index s
  | .reserve mover endCode count => Sys2Proof.Machine.execReserve mover endCode count s
  | .release mover endCode count => Sys2Proof.Machine.execRelease mover endCode count s
  | .configureMover mover cfg => Sys2Proof.Machine.execConfigureMover mover cfg s
  | .unlock mover => Sys2Proof.Machine.execUnlock mover s
  | .lock mover => Sys2Proof.Machine.execLock mover s
  | .move mover target profile => Sys2Proof.Machine.execMove mover target profile s
  | .stop mover => Sys2Proof.Machine.execStop mover s
  | .stopAll => Sys2Proof.Machine.execStopAll s
  | .resetFault mover => Sys2Proof.Machine.execResetFault mover s
  | .queryMover mover => Sys2Proof.Machine.execQueryMover mover s
  | .assignStation address mover role offset poll busyExp => Sys2Proof.Machine.execAssignStation address mover role offset poll busyExp s
  | .unassignStation address => Sys2Proof.Machine.execUnassignStation address s
  | .queryStation address view => Sys2Proof.Machine.execQueryStation address view s
  | .setAdmission limit => Sys2Proof.Machine.execSetAdmission limit s
  | .queryQueue => Sys2Proof.Machine.execQueryQueue s
  | .setProving interval stale => Sys2Proof.Machine.execSetProving interval stale s
  | .queryProving => Sys2Proof.Machine.execQueryProving s
  | .setWind settings => Sys2Proof.Machine.execSetWind settings s
  | .queryWind => Sys2Proof.Machine.execQueryWind s
  | .queryAlerts => Sys2Proof.Machine.execQueryAlerts s
  | .ackAlerts set => Sys2Proof.Machine.execAckAlerts set s
  | .identify => Sys2Proof.Machine.execIdentify s
  | .transactionStart => Sys2Proof.Machine.execTransactionStart s
  | .broadcastHoldStart => Sys2Proof.Machine.execBroadcastHoldStart s
  | .broadcastHoldEnd => Sys2Proof.Machine.execBroadcastHoldEnd s
  | .fieldAnswerReceived bytes => Sys2Proof.Machine.execFieldAnswerReceived bytes s
  | .answerBreak => Sys2Proof.Machine.execAnswerBreak s
  | .answerWindowClosed => Sys2Proof.Machine.execAnswerWindowClosed s
  | .provingTimerExpiry => Sys2Proof.Machine.execProvingTimerExpiry s
  | .consistentFinding index => Sys2Proof.Machine.execConsistentFinding index s
  | .inconsistentFinding index => Sys2Proof.Machine.execInconsistentFinding index s
  | .trailingRelease index => Sys2Proof.Machine.execTrailingRelease index s
  | .intrusionNotice mover => Sys2Proof.Machine.execIntrusionNotice mover s
  | .enrolTimerExpiry mover => Sys2Proof.Machine.execEnrolTimerExpiry mover s
  | .startTimerExpiry mover => Sys2Proof.Machine.execStartTimerExpiry mover s
  | .permitTimerExpiry mover => Sys2Proof.Machine.execPermitTimerExpiry mover s
  | .dwellTimerExpiry mover => Sys2Proof.Machine.execDwellTimerExpiry mover s
  | .stopTimerExpiry mover => Sys2Proof.Machine.execStopTimerExpiry mover s
  | .anemometerPulse channel => Sys2Proof.Machine.execAnemometerPulse channel s
  | .windSample channel statusHigh => Sys2Proof.Machine.execWindSample channel statusHigh s
  | .rainInputChange high => Sys2Proof.Machine.execRainInputChange high s
  | .rainOnExpiry => Sys2Proof.Machine.execRainOnExpiry s
  | .rainOffExpiry => Sys2Proof.Machine.execRainOffExpiry s
  | .estopInputChange high => Sys2Proof.Machine.execEstopInputChange high s
  | .chainOpen => Sys2Proof.Machine.execChainOpen s
  | .chainClosed => Sys2Proof.Machine.execChainClosed s
  | .openingNoticeMovers => Sys2Proof.Machine.execOpeningNoticeMovers s
  | .openingNoticeFieldLink => Sys2Proof.Machine.execOpeningNoticeFieldLink s
  | .commandFrameEnd => Sys2Proof.Machine.execCommandFrameEnd s
  | .resetInputReleased => Sys2Proof.Machine.execResetInputReleased s

end Sys2Proof.Machine
end

