-- ==== Sys2Proof/Machine/Step.lean ====
section
/-!
DEFINITION. One step of the part: the command at the front of the queue takes its effect; on an empty queue a millisecond of
the time base passes (log entry 1).
-/

namespace Sys2Proof.Machine

open Sys2Proof

/-- The state with the command a word spells put at the front of the queue (log entry 2). -/
def State.withFetchWord (s : State) (nbits w : Nat) : State :=
  match decodeTableWord nbits w with
  | some c => { s with pending := c :: s.pending }
  | none => s

/-- One step: the front command of the queue, or the tick of the 1 ms time base (R1) when no command waits. -/
def step (s : State) : Host.Outcome State Fault Refusal :=
  match s.pending with
  | [] => .next s.tick
  | c :: rest => exec c { s with pending := rest }

end Sys2Proof.Machine
end

