-- ==== Sys2Proof/Safety.lean ====
section
/-!
DEFINITION. What a sound state of the part is, in the terms the claims use: invariants the manual states of the whole part
(R19, R69 to R71, R122, R167) and the ranges it gives its records. Each stands by itself, so that a claim names the ones it
needs.
-/

namespace Sys2Proof.Machine

open Sys2Proof

/-! ### What a drive station sends (R137, R138) -/

/-- The bytes of a REPORT from a station, its capability in an answer to IDENT only. -/
def reportFrame (address : Nat) (seq : Bool) (r : Report) : List Byte :=
  let fields :=
    toBytes 1 (address : Int) ++ toBytes 1 ((0x11 + if seq then 128 else 0 : Nat) : Int) ++
      toBytes 3 ((r.position.getD 0xFFFFFF : Nat) : Int) ++ toBytes 2 r.speed ++ toBytes 1 (r.brake.code : Int) ++
      toBytes 1 (r.faultCode : Int) ++
      (match r.capability with | some c => toBytes 1 (capabilityCode (some c) : Int) | none => [])
  fields ++ crcBytes fields

/-- The bytes of a BUSY from a station. -/
def busyFrame (address : Nat) : List Byte :=
  let fields := toBytes 1 (address : Int) ++ [0x12#8]
  fields ++ crcBytes fields

/-! ### Alerts -/

/-- An alert's active flag equals its condition (R167). -/
def State.AlertsFollow (s : State) : Prop := ∀ n, (s.alerts.get n).active = s.condition n

/-- From s to t the Alert Unit has been told of the conditions as they stand in t (R167, R168): each active flag equals its condition,
and a latched flag is set when it was set in s or its active flag has risen since s. -/
def State.AlertsTold (s t : State) : Prop :=
  ∀ n, t.alerts.get n =
    { active := t.condition n
      latched := (s.alerts.get n).latched || (t.condition n && !(s.alerts.get n).active) }

/-! ### Layout and holds -/

/-- A track record is within R2: 1 to 64 segments of 1,000 to 60,000 mm, start and end position in range, its block of table
indices within 0 to 127. -/
def Track.sound (t : Track) : Prop :=
  1 ≤ t.count ∧ t.count ≤ 64 ∧ t.base + t.count ≤ 128 ∧ t.start ≤ 999999 ∧ t.endPos ≤ 1000000 ∧
    ∀ g ∈ t.segs, 1000 ≤ g.len ∧ g.len ≤ 60000

/-- Every defined track is sound, no table index is allocated to two tracks (R2, R4), and no two definitions share an identity,
those to come included (R100, R106). -/
def State.LayoutSound (s : State) : Prop :=
  (∀ k, ∀ t ∈ s.track k, t.sound ∧ t.serial < s.serial) ∧
    ∀ k k', k ≠ k' → ∀ t ∈ s.track k, ∀ t' ∈ s.track k',
      (t.base + t.count ≤ t'.base ∨ t'.base + t'.count ≤ t.base) ∧ t.serial ≠ t'.serial

/-- Mover m's configuration names track k. -/
def State.onTrack (s : State) (m : MoverNo) (k : TrackNo) : Prop := ∃ c ∈ (s.mover m).config, c.track = k

/-- What stops a RESERVE at a candidate place, in the order of R23 (`none` as the place: there is no such place); no stop at a
takeable segment. -/
def Track.stopAt (t : Track) (place : Option Nat) : Option ReserveStop :=
  match place with
  | none => some .trackEnd
  | some p =>
    match t.segs[p]? with
    | none => some .trackEnd
    | some g =>
      match g.holder with
      | some h => some (.heldBy h (t.base + p))
      | none =>
        if g.blocked = true then some (.blocked (t.base + p))
        else if g.suspect = true then some (.suspect (t.base + p))
        else none

/-- The state checks of R6 pass for track k: every mover configured on it is LOCKED_OUT, and no segment of its definition is HELD
or BLOCKED. -/
def State.TrackFree (s : State) (k : TrackNo) : Prop :=
  (∀ m, s.onTrack m k → (s.mover m).state = .lockedOut) ∧
    ∀ t ∈ s.track k, ∀ g ∈ t.segs, g.holder = none ∧ g.blocked = false

/-- Mover m's run holds place p of track k. -/
def State.holds (s : State) (m : MoverNo) (k : TrackNo) (p : Nat) : Prop :=
  s.onTrack m k ∧ ∃ r ∈ s.run m, r.low ≤ p ∧ p ≤ r.high

/-- Runs and holders agree (R19): a mover has a run exactly in the states that hold one; a run is an unbroken stretch of places
of its mover's defined track; a segment's holder is exactly the mover whose run holds its place; and a blocked segment has no
holder (R12). -/
def State.HoldsAgree (s : State) : Prop :=
  (∀ m, (s.run m).isSome = (s.mover m).state.holding) ∧
  (∀ m, ∀ r ∈ s.run m, r.low ≤ r.high ∧ ∃ kt ∈ s.moverTrack m, r.high < kt.2.count) ∧
  ∀ k, ∀ t ∈ s.track k, ∀ p < t.count, ∀ g ∈ t.seg? p,
    (∀ m, g.holder = some m ↔ s.holds m k p) ∧ (g.holder.isSome = true → g.blocked = false)

/-! ### What the operands of CONFIGURE_MOVER and SET_WIND may be -/

/-- The ordinal, among CONFIGURE_MOVER's operands, of the first field outside the range R37 gives it. -/
def rawFailure (c : RawConfig) : Option Nat :=
  if 3 < c.track then some 2
  else if 200000 < c.plusExtent then some 3
  else if 200000 < c.minusExtent then some 4
  else if c.vMax < 1 ∨ 1000 < c.vMax then some 5
  else if c.accel < 1 ∨ 200 < c.accel then some 6
  else if c.brake < 5 ∨ 500 < c.brake then some 7
  else if 10000 < c.standoff then some 8
  else if c.tolerance < 1 ∨ 100 < c.tolerance then some 9
  else if c.creep < 1 ∨ 50 < c.creep then some 10
  else if 64 < c.gain then some 11
  else if 100 < c.trimLimit then some 12
  else if c.skewLimit < 10 ∨ 500 < c.skewLimit then some 13
  else if c.resume < 100 ∨ 50000 < c.resume then some 14
  else if c.dwell < 2 ∨ 60 < c.dwell then some 15
  else if c.permit < 200 ∨ 5000 < c.permit then some 16
  else if 7 < c.wind then some 17
  else if 1 < c.exempt then some 18
  else none

/-- The ordinal of the first setting of SET_WIND outside the ranges of R154, or of its first order check that fails (R164, R178). -/
def windFailure (w : WindSettings) : Option Nat :=
  if w.scale0 < 1 ∨ 4095 < w.scale0 then some 1
  else if w.scale1 < 1 ∨ 4095 < w.scale1 then some 2
  else if w.scale2 < 1 ∨ 4095 < w.scale2 then some 3
  else if 255 < w.window then some 4
  else if w.breezyQ < 1 ∨ 999 < w.breezyQ then some 5
  else if w.strongQ < 1 ∨ 999 < w.strongQ then some 6
  else if w.strongGust < 1 ∨ 999 < w.strongGust then some 7
  else if w.stormQ < 1 ∨ 999 < w.stormQ then some 8
  else if w.stormGust < 1 ∨ 999 < w.stormGust then some 9
  else if 99 < w.hysteresis then some 10
  else if w.strongQ < w.breezyQ then some 11
  else if w.stormQ < w.strongQ then some 12
  else if w.stormGust < w.strongGust then some 13
  else none

/-! ### What happens to one mover, told of the states before and after -/

/-- Nothing but mover records, station records, link state, the Arbiter, the sweep and its messages and the answer has changed. The
alerts have not: they are told of the change at the end of the event (`State.updateAlerts`, R167). -/
def State.SameOutsideMovers (s t : State) : Prop :=
  t.now = s.now ∧ t.resetLow = s.resetLow ∧ t.serial = s.serial ∧ t.wind = s.wind ∧ t.inputs = s.inputs ∧
    t.openingsMovers = s.openingsMovers ∧ t.openingsFieldLink = s.openingsFieldLink ∧ t.port = s.port ∧
    t.alerts = s.alerts ∧ t.pending = s.pending

/-- Station a has a priority request, waiting or carried by the transaction in flight (R146). -/
def State.requested (s : State) (a : StationNo) : Prop :=
  (s.linkOf a).priority = true ∨ ∃ t ∈ s.link.inFlight, t.station = a ∧ t.priority = true

/-- From s to t the priority requests of the stations in `out` have been dropped (R105, R146): the mark of a transaction in flight to
one of them is cleared, and where the pending step awaited one that had a request, the transaction-ended notice has completed that
step, on the part as it stands in t; otherwise the Proving Unit and its messages are as they were. -/
def State.DropsRequests (s t : State) (out : StationNo → Prop) : Prop :=
  let silent := { t with proving := s.proving, toReservation := s.toReservation, toMovers := s.toMovers }
  (∀ x ∈ s.link.inFlight, (out x.station → t.link.inFlight = some { x with priority := false }) ∧
    (¬ out x.station → t.link.inFlight = some x)) ∧
  (s.link.inFlight = none → t.link.inFlight = none) ∧
  (∀ q ∈ s.proving.step, out q.awaited → s.requested q.awaited → t = silent.noticeEnded q.awaited) ∧
  ((∀ q ∈ s.proving.step, ¬ (out q.awaited ∧ s.requested q.awaited)) → t = silent)

/-- Mover m has left service for LOCKED_OUT (R39, R44, R48, R123, R146): the record as at that entry, with an enrol result when the
cause gives one; its stations DORMANT, their capability, report and generation kept; their link state without due time, retry
and priority request, the counts kept, the notice given for a request that is dropped; no other mover, station or link state
changed, and nothing at the Arbiter. -/
def State.LeavesService (s t : State) (m : MoverNo) (result : Option EnrolResult) : Prop :=
  s.SameOutsideMovers t ∧ t.arbiter = s.arbiter ∧
    t.movers = tset s.movers m
      { (s.mover m).leave with
        state := .lockedOut, progress := [], enrol := match result with | some e => some e | none => (s.mover m).enrol } ∧
    t.stations = tmap (fun _ st => if st.serves m = true then
      { st with state := .dormant, standing := none, urgent := false } else st) s.stations ∧
    t.link.links = tmap (fun a l => if (s.station a).serves m = true then
      { l with due := none, retry := none, priority := false } else l) s.link.links ∧
    t.link.broadcast = s.link.broadcast ∧ t.link.line = s.link.line ∧
    s.DropsRequests t fun a => (s.station a).serves m = true

/-- Whom the exit of mover m from its state admits from the start queue, when the Arbiter's records agree: the head, when m was
counting (R69, R74). -/
def State.admittedBy (s : State) (m : MoverNo) : Option MoverNo :=
  if (s.mover m).state.counting = true then s.arbiter.queue.head?.map (·.mover) else none

/-- Mover m has been faulted with the code (R59, R41, R42, R69, R74, R75, R91): its record as at entry to FAULTED, with HOLD,
urgent, at every station; a counting mover has left the count, and the head of the queue has been admitted in its place into
STARTING; a QUEUED mover has left the queue; every other mover and station is as it was, and so are runs and holds (R30). -/
def State.FaultsMover (s t : State) (m : MoverNo) (code : FaultCode) : Prop :=
  s.SameOutsideMovers t ∧ t.tracks = s.tracks ∧ t.runs = s.runs ∧ t.link = s.link ∧
    t.proving = s.proving ∧ t.toReservation = s.toReservation ∧ t.answer = s.answer ∧
    t.mover m =
      { (s.mover m).leave with state := .faulted, fault := some code, stopReason := some (.fault code) } ∧
    (∀ n, n ≠ m → t.mover n =
      if s.admittedBy m = some n then
        { (s.mover n).leave with state := .starting, progress := [], startTimer := some (s.now + 3000#32) }
      else s.mover n) ∧
    (∀ a, (s.station a).serves m = true → t.station a = { s.station a with standing := some .hold, urgent := true }) ∧
    (∀ a n, s.admittedBy m = some n → (s.station a).serves n = true →
      t.station a = { s.station a with standing := some (.drive 0 true), urgent := false, trim := 0 }) ∧
    (∀ a, (s.station a).serves m = false → (∀ n, s.admittedBy m = some n → (s.station a).serves n = false) →
      t.station a = s.station a) ∧
    t.arbiter =
      if (s.mover m).state.counting = true then
        { s.arbiter with
          count := if s.arbiter.queue = [] then s.arbiter.count - 1 else s.arbiter.count, queue := s.arbiter.queue.tail }
      else { s.arbiter with queue := s.arbiter.queue.filter fun e => decide (e.mover ≠ m) }

/-- Mover m has entered STOPPING with the reason (R57, R41): in BRAKING with HOLD, urgent, at every station when the latest lead
report shows zero-band speed, in RUNDOWN with DRIVE 0 and release otherwise; the stop timer started; nothing else changed. -/
def State.stopped (s : State) (m : MoverNo) (reason : StopReason) : State :=
  let resting := match (s.leadOf m).bind fun a => (s.station a).report with
    | some r => decide (r.speed.natAbs ≤ 2)
    | none => false
  { s with
    movers := tset s.movers m
      { (s.mover m).leave with
        state := .stopping, stopReason := some reason, stopTimer := some (s.now + 60000#32)
        phase := some (if resting = true then .braking else .rundown)
        progress := if resting = true then [] else (s.mover m).progress }
    stations := tmap (fun _ st => if st.serves m = true then
      { st with
        standing := some (if resting = true then .hold else .drive 0 true), urgent := resting } else st) s.stations }

/-! ### Answers of stations -/

/-- The answer window of transaction t stands open, and its station still matches it (R128, R135). -/
def State.awaits (s : State) (t : Transaction) : Prop :=
  s.link.line = .window ∧ s.link.inFlight = some t ∧ (s.station t.station).generation = t.generation ∧
    (s.station t.station).state ≠ .dormant

/-- The bytes carry report r, with the sequence bit of the transaction t that they answer; t is to an ACTIVE station and not an
IDENT. -/
def State.reports (s : State) (t : Transaction) (bytes : List Byte) (r : Report) : Prop :=
  s.awaits t ∧ t.command ≠ .ident ∧ (s.station t.station).state = .active ∧
    readAnswer s.now (t.station.val + 1) t.command bytes = .report t.seq r

/-- The end of transaction t, its ending judged and its effects made: the notice of the priority request it carried (R147), and the
alerts brought to their conditions (R167). -/
def State.closing (s : State) (t : Transaction) : State :=
  State.updateAlerts (if t.priority = true then s.noticeEnded t.station else s)

/-- Such a report filed (R129, R141, R145): the transaction ended, the sequence bit flipped, the counts 0, no retry, the next poll
due one poll interval on, the report in the station record. -/
def State.filed (s : State) (t : Transaction) (r : Report) : State :=
  { s with
    stations := tset s.stations t.station { s.station t.station with report := some r }
    link :=
      { s.link with
        inFlight := none, line := .idle
        links := tset s.link.links t.station
          { s.linkOf t.station with
            seq := !(s.linkOf t.station).seq, attempts := 0, busy := 0, retry := none
            due := some (s.now + BitVec.ofNat 32 (((s.station t.station).assign.map (·.poll)).getD 0)) } } }

/-- A lead report read at position p from a station of the given offset: the reference position and its time (R40). -/
def State.referenced (s : State) (m : MoverNo) (p : Nat) (offset : Int) : State :=
  { s with
    movers := tset s.movers m
      { s.mover m with reference := some ((p : Int) - offset), leadTime := some s.now } }

/-- The output stage written (R89, R96): V, the previous commanded speed and its time, DRIVE at every station of the mover: V at
the LEAD, V trimmed at a FOLLOW, 0 at a BRAKE station, all with brake release. -/
def State.driven (s : State) (m : MoverNo) (c : MoverConfig) (speed : Nat) : State :=
  let d := (s.mover m).dir
  { s with
    movers := tset s.movers m
      { s.mover m with velocity := d.sign * speed, prevSpeed := speed, prevTime := some s.now }
    stations := tmap (fun _ (st : Station) => if st.serves m = true then
      { st with
        urgent := false
        standing := some (.drive
          (match (st.assign.map Assignment.role : Option Role) with
            | some .lead => d.sign * speed
            | some .follow => trimmedSpeed (d.sign * speed) st.trim d c.vMax
            | _ => 0) true) }
      else st) s.stations }

/-- Mover m has left a counting state for one at rest (R69, R74): the count one lower, unless the head of the queue has been admitted
in its place into STARTING. `x` and the HOLD are what the exit leaves of m itself. -/
def State.Rests (s t : State) (m : MoverNo) (x : Mover) : Prop :=
  (∀ n, t.mover n =
    if n = m then x
    else if s.arbiter.queue.head?.map (·.mover) = some n then
      { (s.mover n).leave with state := .starting, progress := [], startTimer := some (s.now + 3000#32) }
    else s.mover n) ∧
  (∀ a, t.station a =
    match (s.station a).assign with
    | none => s.station a
    | some y =>
      if y.mover = m then { s.station a with standing := some .hold, urgent := false }
      else if s.arbiter.queue.head?.map (·.mover) = some y.mover then
        { s.station a with standing := some (.drive 0 true), urgent := false, trim := 0 }
      else s.station a) ∧
  t =
    { s with
      movers := t.movers, stations := t.stations
      arbiter :=
        { s.arbiter with
          count := if s.arbiter.queue = [] then s.arbiter.count - 1 else s.arbiter.count, queue := s.arbiter.queue.tail } }

/-- The skew judgement of a FOLLOW station's report at position p (R91 to R96), from s to t: none without lead evidence or on stale
evidence; beyond the skew limit the mover is faulted with SKEW; otherwise the trim is written, and in MOVING the station's
standing command is DRIVE at the trimmed speed. -/
def State.SkewJudged (s t : State) (m : MoverNo) (a : StationNo) (c : MoverConfig) (p : Nat) (offset : Int) : Prop :=
  let y := s.mover m
  let lead := (s.leadOf m).bind fun b => (s.station b).report
  (y.reference = none ∨ y.leadTime = none ∨ lead = none → t = s) ∧
  ∀ rl tl q, y.reference = some rl → y.leadTime = some tl → lead = some q →
    let dt := (s.now - tl).toNat
    let skew := (p : Int) - offset - (rl + (q.speed * dt).tdiv 1000)
    let trim := max (-(c.trimLimit : Int)) (min c.trimLimit ((skew * c.gain).tdiv 16))
    (s.proving.stale < dt → t = s) ∧
    (dt ≤ s.proving.stale → c.skewLimit < skew.natAbs → s.FaultsMover t m .skew ∧ t.toMovers = s.toMovers) ∧
    (dt ≤ s.proving.stale → skew.natAbs ≤ c.skewLimit →
      t =
        { s with
          stations := tset s.stations a
            (if y.state = .moving then
              { s.station a with
                trim := trim, urgent := false
                standing := some (.drive (trimmedSpeed y.velocity trim y.dir c.vMax) true) }
            else { s.station a with trim := trim }) })

/-! ### Movers and admission -/

/-- The run-time fields of a mover record fit its state (R39, R43, R57, R59): V, the previous commanded speed and its time
outside MOVING, each timer in the state it runs in, the stopping phase in STOPPING, the fault code and stop reason in FAULTED,
the reason AUTHORITY in HELD, an empty progress set in LOCKED_OUT. -/
def Mover.sound (x : Mover) : Prop :=
  (x.state ≠ .moving → x.velocity = 0 ∧ x.prevSpeed = 0 ∧ x.prevTime = none) ∧
  (x.enrolTimer.isSome = true ↔ x.state = .enrolling) ∧ (x.startTimer.isSome = true ↔ x.state = .starting) ∧
  (x.permitTimer.isSome = true ↔ x.state = .moving) ∧ (x.dwellTimer.isSome = true → x.state = .moving) ∧
  (x.stopTimer.isSome = true ↔ x.state = .stopping) ∧ (x.phase.isSome = true ↔ x.state = .stopping) ∧
  (x.state = .faulted → x.fault.isSome = true ∧ x.stopReason = x.fault.map .fault) ∧
  (x.fault.isSome = true → x.state = .faulted ∨ x.state = .lockedOut) ∧
  (x.state = .held → x.stopReason = some .authority) ∧ (x.state = .lockedOut → x.progress = [])

/-- Every mover record fits its state. -/
def State.MoversSound (s : State) : Prop := ∀ m, (s.mover m).sound

/-- The Arbiter's records agree with the movers' states (R69 to R74): the limit is 1 to 12, the count is the number of counting
movers and within the limit, the queue holds exactly the QUEUED movers, each once, and a non-empty queue stands with the count
at the limit. -/
def State.ArbiterAgrees (s : State) : Prop :=
  (1 ≤ s.arbiter.limit ∧ s.arbiter.limit ≤ 12) ∧
  s.arbiter.count = (List.finRange 12).countP (fun m => (s.mover m).state.counting) ∧
  s.arbiter.count ≤ s.arbiter.limit ∧
  (∀ m, m ∈ s.arbiter.queue.map (·.mover) ↔ (s.mover m).state = .queued) ∧
  (s.arbiter.queue.map (·.mover)).Nodup ∧
  (s.arbiter.queue ≠ [] → s.arbiter.count = s.arbiter.limit)

/-- A configuration is within the ranges of R37, with the creep speed no greater than v_max (R38). -/
def MoverConfig.sound (c : MoverConfig) : Prop :=
  c.plusExtent ≤ 200000 ∧ c.minusExtent ≤ 200000 ∧ (1 ≤ c.vMax ∧ c.vMax ≤ 1000) ∧ (1 ≤ c.accel ∧ c.accel ≤ 200) ∧
  (5 ≤ c.brake ∧ c.brake ≤ 500) ∧ c.standoff ≤ 10000 ∧ (1 ≤ c.tolerance ∧ c.tolerance ≤ 100) ∧
  (1 ≤ c.creep ∧ c.creep ≤ 50 ∧ c.creep ≤ c.vMax) ∧ c.gain ≤ 64 ∧ c.trimLimit ≤ 100 ∧
  (10 ≤ c.skewLimit ∧ c.skewLimit ≤ 500) ∧ (100 ≤ c.resume ∧ c.resume ≤ 50000) ∧ (2 ≤ c.dwell ∧ c.dwell ≤ 60) ∧
  (200 ≤ c.permit ∧ c.permit ≤ 5000) ∧ c.wind ≤ 7

/-- Every configuration that is set is within its ranges. -/
def State.ConfigsSound (s : State) : Prop := ∀ m, ∀ c ∈ (s.mover m).config, c.sound

/-! ### Stations and their commands -/

/-- Stations follow their movers in and out of service (R118, R122, R123): an assigned station is DORMANT exactly while its
mover is LOCKED_OUT, an unassigned one always; a DORMANT station has no standing command, no urgent mark, no due time and no
pending retry; a mover out of LOCKED_OUT has exactly one LEAD; no mover has more than 8 stations. -/
def State.StationsFollow (s : State) : Prop :=
  (∀ a, (s.station a).assign = none → (s.station a).state = .dormant) ∧
  (∀ a, ∀ x ∈ (s.station a).assign, (s.station a).state = .dormant ↔ (s.mover x.mover).state = .lockedOut) ∧
  (∀ a, (s.station a).state = .dormant →
    (s.station a).standing = none ∧ (s.station a).urgent = false ∧ (s.linkOf a).due = none ∧ (s.linkOf a).retry = none) ∧
  (∀ m, (s.mover m).state ≠ .lockedOut → s.leadCount m = 1) ∧
  ∀ m, (s.stationsOf m).length ≤ 8

/-- Every DRIVE that stands for a station is for a mover in a counting state; its speed is at most the mover's v_max and never
has the sign opposite to the mover's direction (R96). -/
def State.DrivesSound (s : State) : Prop :=
  ∀ a, ∀ x ∈ (s.station a).assign, ∀ v release, (s.station a).standing = some (.drive v release) →
    (s.mover x.mover).state.counting = true ∧
    ∀ c ∈ (s.mover x.mover).config, v.natAbs ≤ c.vMax ∧ 0 ≤ v * (s.mover x.mover).dir.sign

/-! ### Wind, counters -/

/-- The wind settings are within the ranges and orders of R154. -/
def windSettingsSound (w : WindSettings) : Prop :=
  (1 ≤ w.scale0 ∧ w.scale0 ≤ 4095) ∧ (1 ≤ w.scale1 ∧ w.scale1 ≤ 4095) ∧ (1 ≤ w.scale2 ∧ w.scale2 ≤ 4095) ∧
  w.window ≤ 255 ∧ 1 ≤ w.breezyQ ∧ w.breezyQ ≤ w.strongQ ∧ w.strongQ ≤ w.stormQ ∧ w.stormQ ≤ 999 ∧
  1 ≤ w.strongGust ∧ w.strongGust ≤ w.stormGust ∧ w.stormGust ≤ 999 ∧ w.hysteresis ≤ 99

/-- A channel record fits its settings (R153, R155 to R161): the counters in range, a window not yet full, the class DEAD exactly
with the dead flag, a DEAD channel without window, statistics or flags, a provisional or gust-tripped channel in STORM. -/
def Channel.sound (w : WindSettings) (c : Channel) : Prop :=
  c.pulses ≤ 65535 ∧ (∀ r ∈ c.raw, r ≤ 999) ∧ c.samples ≤ w.window ∧ c.sum ≤ 999 * c.samples ∧
  c.sumSq ≤ 998001 * c.samples ∧ (∀ x ∈ c.winMax, x ≤ 999) ∧ (c.winMax.isSome = true ↔ 0 < c.samples) ∧
  (c.winMin.isSome = true ↔ 0 < c.samples) ∧ (c.dead = true ↔ c.cls = .dead) ∧
  (c.dead = true → c.samples = 0 ∧ c.gustTrip = false ∧ c.gustSeen = false ∧ c.provisional = false ∧ c.stats = none) ∧
  (c.available = true ↔ c.stats.isSome = true) ∧ (c.provisional = true → c.cls = .live .storm) ∧
  (c.gustTrip = true → c.cls = .live .storm) ∧
  (c.gustSeen = true → c.gustTrip = true ∧ ∃ x ∈ c.winMax, w.stormGust ≤ x)

/-- The Wind Unit's records are sound. -/
def State.WindSound (s : State) : Prop :=
  windSettingsSound s.wind.settings ∧ ∀ ch, (tget s.wind.channels ch).sound s.wind.settings

/-- A receiver in a frame has a start byte, and after a length in range fewer bytes than that length calls for (R174). -/
def Receiver.sound (rx : Receiver) : Bool :=
  match rx with
  | .hunting => true
  | .inFrame [start] _ => decide (start = 0x5A#8)
  | .inFrame (start :: len :: rest) _ =>
    decide (start = 0x5A#8 ∧ 2 ≤ len.toNat ∧ len.toNat ≤ 252 ∧ rest.length < len.toNat + 2)
  | .inFrame [] _ => false

/-- The counters and settings of the link, the Proving Unit and the port keep their ranges (R100, R134, R144, R174, R175). -/
def State.CountersBounded (s : State) : Prop :=
  (∀ a, (s.linkOf a).attempts ≤ 3 ∧ (s.linkOf a).busy ≤ 65535) ∧
  (5 ≤ s.proving.interval ∧ s.proving.interval ≤ 1000) ∧ (100 ≤ s.proving.stale ∧ s.proving.stale ≤ 5000) ∧
  s.proving.cursor < 128 ∧ s.port.buffer.length ≤ 2 ∧ s.port.receiver.sound = true

/-- Everything that the manual says holds of the part at every moment, as far as this file states it. -/
def State.Sound (s : State) : Prop :=
  s.LayoutSound ∧ s.HoldsAgree ∧ s.MoversSound ∧ s.ArbiterAgrees ∧ s.ConfigsSound ∧ s.StationsFollow ∧ s.DrivesSound ∧
  s.AlertsFollow ∧ s.WindSound ∧ s.CountersBounded

end Sys2Proof.Machine
end

