-- ==== Sys2Proof/Certificates/Slice0/Obligations.lean ====
section
/-!
DEFINITION. The statements about the model, for the provers. Each docstring names the rules of the manual it rests on.
-/

section

open Sys2Proof Sys2Proof.Machine

/-! ### Encodings -/

/-- R176, R181: the request code and body of Table 11-2, decoded, give back the request with every operand. -/
def Obligations.RequestsRoundTrip : Prop :=
  ∀ (i : Instr) (code : Byte), i.wf = true → requestCode i = some code →
    decodeRequest code (requestBody i) = .ok i

/-- R176, R177, R181: a decoded request is well formed, and its code and body are exactly the ones that carry it; a code of no
request is answered UNKNOWN_CODE. A request code of Table 11-2 with a body of another length is answered LENGTH with the length of the
table, and with a body of that length it decodes. For DEFINE_TRACK the length is 5 + 2n, n the count carried. The byte that names it is
a free value where 5 + 2n is above 255 and where the body is too short for a count: the manual states none (log entry 15). -/
def Obligations.DecodedRequestsReencode : Prop :=
  (∀ (code : Byte) (body : List Byte) (i : Instr), decodeRequest code body = .ok i →
    i.wf = true ∧ requestCode i = some code ∧ requestBody i = body) ∧
  (∀ (code : Byte) (body : List Byte), (∀ i, requestCode i ≠ some code) →
    decodeRequest code body = .error .unknownCode) ∧
  (∀ row ∈ ([(0x02, 1), (0x03, 1), (0x04, 1), (0x05, 1), (0x06, 1), (0x10, 3), (0x11, 3), (0x20, 28), (0x21, 1), (0x22, 1),
      (0x23, 6), (0x24, 1), (0x25, 0), (0x26, 1), (0x27, 1), (0x30, 9), (0x31, 1), (0x32, 2), (0x40, 1), (0x41, 0), (0x50, 4),
      (0x51, 0), (0x60, 18), (0x61, 0), (0x70, 0), (0x71, 1), (0x7F, 0)] : List (Byte × Nat)), ∀ body : List Byte,
    (body.length ≠ row.2 → decodeRequest row.1 body = .error (.length (BitVec.ofNat 8 row.2))) ∧
    (body.length = row.2 → ∃ i, decodeRequest row.1 body = .ok i)) ∧
  (∀ (track s1 s2 s3 n : Byte) (rest : List Byte),
    let body := track :: s1 :: s2 :: s3 :: n :: rest
    (body.length = 5 + 2 * n.toNat → ∃ i, decodeRequest 0x01#8 body = .ok i) ∧
    (body.length ≠ 5 + 2 * n.toNat →
      (5 + 2 * n.toNat ≤ 255 → decodeRequest 0x01#8 body = .error (.length (BitVec.ofNat 8 (5 + 2 * n.toNat)))) ∧
      (255 < 5 + 2 * n.toNat →
        decodeRequest 0x01#8 body = .error (.length (Config.freeExpectedLength (some n.toNat)))))) ∧
  ∀ body : List Byte, body.length < 5 →
    decodeRequest 0x01#8 body = .error (.length (Config.freeExpectedLength none))

/-- R173, R174: a frame with a body of at most 250 bytes is read as its tag, code and body, and whatever is read as a frame is
one: start byte, length, tag, code, body and the matching CRC. -/
def Obligations.SupervisoryFramesRoundTrip : Prop :=
  (∀ (tag code : Byte) (body : List Byte), body.length ≤ 250 →
    readFrame (supervisoryFrame tag code body) = some { tag := tag, code := code, body := body }) ∧
  ∀ (bytes : List Byte) (f : Frame), readFrame bytes = some f →
    f.body.length ≤ 250 ∧ bytes = supervisoryFrame f.tag f.code f.body

/-- R135, R137, R138: a REPORT's bytes, with a capability exactly in answer to IDENT and with any bytes after them, are read as
that report; a BUSY's bytes as BUSY; and only such bytes from the transaction's station are read as either. That a BUSY is a
kind byte of exactly 0x12 is the model's choice (log entry 16). -/
def Obligations.FieldAnswersReadAsSent : Prop :=
  ∀ (now : Time) (address : Nat) (c : Command), 1 ≤ address → address ≤ 32 →
    (∀ (seq : Bool) (r : Report) (tail : List Byte),
      (∀ p ∈ r.position, p ≤ 999999) → -32768 ≤ r.speed → r.speed ≤ 32767 → r.faultCode < 256 →
      (r.capability.isSome = true ↔ c = .ident) → r.arrival = now →
        readAnswer now address c (reportFrame address seq r ++ tail) = .report seq r) ∧
    (∀ tail, readAnswer now address c (busyFrame address ++ tail) = .busy) ∧
    (∀ bytes seq r, readAnswer now address c bytes = .report seq r →
      bytes.take (if c = .ident then 12 else 11) = reportFrame address seq r ∧ r.arrival = now ∧
      (r.capability.isSome = true ↔ c = .ident) ∧ ∀ p ∈ r.position, p ≤ 999999) ∧
    ∀ bytes, readAnswer now address c bytes = .busy → bytes.take 4 = busyFrame address

/-! ### Steps -/

/-- A step runs the command at the front of the queue, with the queue's rest (the model's queue, log entry 2). -/
def Obligations.StepRunsFront : Prop :=
  ∀ (c : Instr) (rest : List Instr) (s : State),
    step { s with pending := c :: rest } = exec c { s with pending := rest }

/-- The model's choice (log entry 1): with no command waiting a step is one millisecond of the time base of R1, which rises by 1
modulo 2³² and stands while the reset input is held low; nothing else changes. -/
def Obligations.IdleStepTicks : Prop :=
  ∀ s : State, s.pending = [] →
    step s = .next (if s.resetLow = true then s else { s with now := s.now + 1#32 })

/-- Every command ends in a next state, whatever the state, and none touches the queue of waiting commands. That no command
touches the queue, FULL_RESET among them, is the model's choice (log entries 2 and 7): the queue is the model's. What a command
does, the statements about it say. -/
def Obligations.CommandsCompleteAndKeepQueue : Prop :=
  ∀ (c : Instr) (s : State), ∃ t, exec c s = .next t ∧ t.pending = s.pending

/-- The model's choice (log entry 7): while the reset input is low, no command but the release, a further reset and the levels of the
two hardwired inputs changes anything; the levels are all that the input changes change. R179 itself says only that the receiver
ignores the line and that the transmit pair idles at the mark level. -/
def Obligations.NothingHappensInReset : Prop :=
  ∀ (c : Instr) (s : State), s.resetLow = true →
    (∀ high, exec (.rainInputChange high) s = .next { s with inputs := { s.inputs with rainPin := high } }) ∧
    (∀ high, exec (.estopInputChange high) s = .next { s with inputs := { s.inputs with estopPin := high } }) ∧
    (c ≠ .fullReset → c ≠ .resetInputReleased → (∀ high, c ≠ .rainInputChange high) →
      (∀ high, c ≠ .estopInputChange high) → exec c s = .next s)

/-- R179, R1 and each chapter's reset values: FULL_RESET sets every record to its reset value, keeping the input levels and the
queue of waiting commands, and RESET_INPUT_RELEASED starts the time base and the conditioning timers of inputs that are high
(R166, R169). With both inputs low the two together give the model's state after reset; a release with no reset held does
nothing. The model's choices: that FULL_RESET holds the part until the release, that pin levels and queue survive and that a
release with no reset held does nothing (log entry 7), and the input levels in the model's state after reset (log entry 3). -/
def Obligations.FullResetAndRelease : Prop :=
  ∀ s : State, ∃ t, exec .fullReset s = .next t ∧
    t.now = 0 ∧ t.resetLow = true ∧ t.pending = s.pending ∧
    (∀ k, t.track k = none) ∧ (∀ m, t.run m = none) ∧
    (∀ m, t.mover m =
      { state := .lockedOut, config := none, target := none, profile := none, dir := .plus, reference := none,
        leadTime := none, velocity := 0, prevSpeed := 0, prevTime := none, stopReason := none, phase := none,
        fault := none, enrol := none, progress := [], enrolTimer := none, startTimer := none, permitTimer := none,
        dwellTimer := none, stopTimer := none }) ∧
    t.arbiter = { limit := 2, count := 0, queue := [] } ∧
    (∀ a, t.station a =
      { assign := none, capability := none, generation := 0, state := .dormant, report := none, standing := none,
        urgent := false, lastSent := none, trim := 0 }) ∧
    (∀ a, t.linkOf a = { seq := false, attempts := 0, busy := 0, due := none, retry := none, priority := false }) ∧
    t.link.broadcast = false ∧ t.link.inFlight = none ∧ t.link.line = .idle ∧
    t.proving = { interval := 20, stale := 500, expiry := 20, cursor := 0, step := none, last := none } ∧
    t.toReservation = [] ∧ t.toMovers = [] ∧ t.openingsMovers = 0 ∧ t.openingsFieldLink = 0 ∧
    t.wind.settings =
      { scale0 := 64, scale1 := 64, scale2 := 64, window := 15, breezyQ := 60, strongQ := 120, strongGust := 180,
        stormQ := 180, stormGust := 250, hysteresis := 10 } ∧
    (∀ ch, (tget t.wind.channels ch).cls = .live .storm ∧ (tget t.wind.channels ch).provisional = true ∧
      (tget t.wind.channels ch).dead = false ∧ (tget t.wind.channels ch).gustTrip = false ∧
      (tget t.wind.channels ch).pulses = 0 ∧ (tget t.wind.channels ch).raw = none ∧
      (tget t.wind.channels ch).samples = 0 ∧ (tget t.wind.channels ch).sum = 0 ∧
      (tget t.wind.channels ch).sumSq = 0 ∧ (tget t.wind.channels ch).winMin = none ∧
      (tget t.wind.channels ch).winMax = none ∧ (tget t.wind.channels ch).gustSeen = false ∧
      (tget t.wind.channels ch).available = false ∧ (tget t.wind.channels ch).stats = none ∧
      (tget t.wind.channels ch).due = 250) ∧
    t.inputs.rainActive = false ∧ t.inputs.chainOpen = true ∧ t.inputs.lastOpening = none ∧
    t.inputs.rainPin = s.inputs.rainPin ∧ t.inputs.estopPin = s.inputs.estopPin ∧
    t.alerts.storm = ⟨true, true⟩ ∧ t.alerts.estop = ⟨true, true⟩ ∧
    (∀ n, n ≠ .storm → n ≠ .estop → t.alerts.get n = ⟨false, false⟩) ∧
    t.port = { receiver := .hunting, buffer := [], sending := none } ∧
    exec .resetInputReleased t = .next
      { t with
        resetLow := false
        inputs :=
          { t.inputs with
            rainTimer := if s.inputs.rainPin = true then some 2000 else none
            chainTimer := if s.inputs.estopPin = true then some 100 else none } } ∧
    (s.inputs.rainPin = false → s.inputs.estopPin = false →
      exec .resetInputReleased t = .next { State.reset with pending := s.pending }) ∧
    (s.resetLow = true →
      exec .resetInputReleased s = .next
        { s with
          resetLow := false, now := 0
          inputs :=
            { s.inputs with
              rainTimer := if s.inputs.rainPin = true then some 2000 else none
              chainTimer := if s.inputs.estopPin = true then some 100 else none } }) ∧
    (s.resetLow = false → exec .resetInputReleased s = .next s)

/-! ### Invariants -/

/-- Right after full reset, whatever the levels of the two hardwired inputs, everything that this model states of every moment
holds (R2, R19, R69, R100, R122, R153, R167). -/
def Obligations.SoundAtReset : Prop := State.reset.Sound ∧ ∀ rain estop, (State.atReset rain estop).Sound

/-- R69 to R76: every step keeps the Arbiter in agreement with the movers' states: the count is the number of counting movers
and within the limit, the queue holds exactly the QUEUED movers, each once, and stands non-empty only at the limit. -/
def Obligations.ArbiterAgreesAtEveryStep : Prop :=
  ∀ s t : State, s.ArbiterAgrees → step s = .next t → t.ArbiterAgrees

/-- R19, R12, R4: every step keeps runs and holders in agreement, each run an unbroken stretch of its mover's track, no segment
with two holders, none both held and blocked, and no table index with two tracks. -/
def Obligations.HoldsAgreeAtEveryStep : Prop :=
  ∀ s t : State, s.LayoutSound → s.ArbiterAgrees → s.HoldsAgree → step s = .next t → t.LayoutSound ∧ t.HoldsAgree

/-- R167, R168: every step leaves each alert's active flag equal to its condition; an idle step changes no alert. Under every command
the latched flag of an alert whose active flag goes from false to true is set, and under every one but FULL_RESET a flag that is
latched was latched before or has so risen. Under every command but FULL_RESET, ACK_ALERTS and the port events that may take
ACK_ALERTS from a frame, the latched flag is the one before, set in addition at a rise. The telling of the conditions that ends an
event (`State.updateAlerts`) does exactly this and changes nothing else. That the step of one command counts as
one event of every owner it touches is the model's reading (log entry 23). -/
def Obligations.AlertsFollowAtEveryStep : Prop :=
  (∀ s t : State, s.AlertsFollow → step s = .next t → t.AlertsFollow) ∧
  (∀ s t : State, s.pending = [] → step s = .next t → t.alerts = s.alerts) ∧
  (∀ (c : Instr) (s t : State) (n : AlertName), exec c s = .next t →
    let risen : Prop := (s.alerts.get n).active = false ∧ (t.alerts.get n).active = true
    (risen → (t.alerts.get n).latched = true) ∧
    (c ≠ .fullReset → (t.alerts.get n).latched = true → (s.alerts.get n).latched = true ∨ risen) ∧
    (c ≠ .fullReset → (∀ set, c ≠ .ackAlerts set) →
      (∀ line last, c ≠ .frameReceived line last ∧ c ≠ .frameLengthDrop line) → c ≠ .answerSent →
      ((t.alerts.get n).latched = true ↔ (s.alerts.get n).latched = true ∨ risen))) ∧
  ∀ s : State, s.AlertsTold s.updateAlerts ∧ s.updateAlerts = { s with alerts := s.updateAlerts.alerts }

/-- R39, R43, R57, R59: every step keeps each mover's run-time fields as its state asks: V and the previous speed 0 outside
MOVING, each timer running exactly in its state, the phase in STOPPING, the fault code from FAULTED to RESET_FAULT or UNLOCK. -/
def Obligations.MoversSoundAtEveryStep : Prop :=
  ∀ s t : State, s.ArbiterAgrees → s.MoversSound → step s = .next t → t.MoversSound

/-- R122, R123: every step keeps the stations with their movers: DORMANT exactly while the mover is LOCKED_OUT, one LEAD for
every mover out of LOCKED_OUT, at most eight stations for any. -/
def Obligations.StationsFollowAtEveryStep : Prop :=
  ∀ s t : State, s.ArbiterAgrees → s.StationsFollow → step s = .next t → t.StationsFollow

/-- R96, R41: every step keeps each standing DRIVE within its mover's v_max, never against its direction, and only while the
mover is in a counting state; and every configuration within its ranges. -/
def Obligations.DrivesSoundAtEveryStep : Prop :=
  ∀ s t : State, s.ConfigsSound → s.DrivesSound → step s = .next t → t.ConfigsSound ∧ t.DrivesSound

/-- R153 to R161, R100, R134, R144, R175: every step keeps the channel records sound under their settings, and the counters,
settings and buffer of the link, the Proving Unit and the port within their ranges. -/
def Obligations.WindAndCountersSoundAtEveryStep : Prop :=
  ∀ s t : State, s.WindSound → s.CountersBounded → step s = .next t → t.WindSound ∧ t.CountersBounded

/-- R168, R170: the latched flag of an alert is cleared by nothing but ACK_ALERTS (as a command, or within a port event that may take
it from a frame) and full reset. ATTN is asserted, its line low, exactly while the reset input is high and some latched flag is
set. So it is asserted after every command but FULL_RESET under which an active flag rises, it becomes asserted under no other, it
stays asserted under every command that clears no latched flag, and it is released by ACK_ALERTS exactly when every latched alert
is named and not active. FULL_RESET releases it, and at the release of the reset input it follows the latched flags. That ATTN is a
function of the state, `State.attn`, is the model's choice (log entry 10), and so is that nothing but the levels acts while the
input is low (log entry 7). -/
def Obligations.LatchClearedByAcknowledgementOnly : Prop :=
  let active := fun (s : State) n => (s.alerts.get n).active = true
  let latched := fun (s : State) n => (s.alerts.get n).latched = true
  (∀ s : State, s.attn = true ↔ s.resetLow = false ∧ ∃ n, latched s n) ∧
  (∀ (c : Instr) (s t : State), c ≠ .fullReset → exec c s = .next t →
    let risen := fun n => ¬ active s n ∧ active t n
    (s.resetLow = false → (∃ n, risen n) → t.attn = true) ∧
    (s.resetLow = false → s.attn = false → t.attn = true → ∃ n, risen n) ∧
    ((∀ set, c ≠ .ackAlerts set) → (∀ line last, c ≠ .frameReceived line last ∧ c ≠ .frameLengthDrop line) →
      c ≠ .answerSent → (∀ n, latched s n → latched t n) ∧ (s.attn = true → t.attn = true))) ∧
  (∀ (s t : State) (set : Nat), s.resetLow = false → exec (.ackAlerts set) s = .next t →
    (t.attn = false ↔ ∀ n i, alertNames[i]? = some n → latched s n → set.testBit i = true ∧ ¬ active s n)) ∧
  (∀ s t : State, exec .fullReset s = .next t → t.attn = false) ∧
  ∀ s t : State, s.resetLow = true → exec .resetInputReleased s = .next t → (t.attn = true ↔ ∃ n, latched s n)

/-- R13: a segment gains a holder in a step only when it was FREE and not suspect before it. A segment record is the same one
after the step when its track's definition has the same identity. -/
def Obligations.OnlyTakeableSegmentsGainHolders : Prop :=
  ∀ (s t : State) (k k' : TrackNo) (d d' : Track) (p : Nat) (g g' : Seg) (m : MoverNo),
    s.LayoutSound → step s = .next t → s.track k = some d → t.track k' = some d' → d'.serial = d.serial →
    d.seg? p = some g → d'.seg? p = some g' → g'.holder = some m → g.holder ≠ some m →
    g.holder = none ∧ g.blocked = false ∧ g.suspect = false

/-! ### Computations -/

/-- R80: isqrt is exact on 0 to 2³² − 1, isqrt(0) is 0, and the arguments the law passes lie within that range, because neither
distance exceeds 1,200,000 mm. -/
def Obligations.SquareRootExact : Prop :=
  isqrt 0 = 0 ∧
  (∀ x : Nat, x < 2 ^ 32 → isqrt x * isqrt x ≤ x ∧ x < (isqrt x + 1) * (isqrt x + 1)) ∧
  (∀ (c : MoverConfig) (d : Dir) (r e : Int), -200000 ≤ r → r ≤ 1199999 → 0 ≤ e → e ≤ 1000000 →
    authorityDistance c (rawAuthority c d r e) ≤ 1200000) ∧
  (∀ (target : Nat) (r : Int), -200000 ≤ r → r ≤ 1199999 → target ≤ 1000000 → targetDistance target r ≤ 1200000) ∧
  ∀ b d : Nat, b ≤ 500 → d ≤ 1200000 → 2 * b * d ≤ 1200000000 ∧ 2 * b * d < 2 ^ 32

/-- R82 to R88: the stages of the speed-authority law, written out: the overrun test, the distances, the arrival test, the four
limits, the goal, the creep floor and the ramp. -/
def Obligations.SpeedLawStages : Prop :=
  ∀ i : LawInput,
    let e := (i.authority - (match i.dir with
      | .plus => i.reference + i.config.plusExtent
      | .minus => i.reference - i.config.minusExtent)) * i.dir.sign
    let dAuth := (max 0 (e - i.config.standoff)).toNat
    let dTgt := ((i.target : Int) - i.reference).natAbs
    let vA := isqrt (2 * i.config.brake * dAuth)
    let vT := isqrt (2 * i.config.brake * dTgt)
    let p := match i.cls with
      | .calm => 100
      | .breezy => 75
      | .strong => 40
      | .storm => if i.config.exempt = true then 40 else 0
    let goal8 := min i.profile (min i.config.vMax (min vA (min vT (i.config.vMax * p / 100))))
    let goal := if 0 < dAuth ∧ i.config.creep ≤ vA ∧ goal8 < i.config.creep then i.config.creep else goal8
    let dt := match i.prevTime with
      | some t => min (i.now - t).toNat 1000
      | none => 0
    let v := if i.prevSpeed < goal then i.prevSpeed + min (goal - i.prevSpeed) (max 1 (i.config.accel * dt / 1000)) else goal
    (e < 0 → speedLaw i = .overrun) ∧
    (0 ≤ e → dTgt ≤ i.config.tolerance → speedLaw i = .output 0 true dAuth dTgt) ∧
    (0 ≤ e → i.config.tolerance < dTgt → speedLaw i = .output v false dAuth dTgt)

/-- R85, R87 to R89: a commanded speed can be braked at the mover's rate within the authority distance, is at most v_max, is 0
at arrival, and rises by no more than the ramp allows over the time since the last command. -/
def Obligations.SpeedLawSafe : Prop :=
  ∀ (i : LawInput) (v dAuth dTgt : Nat) (arrived : Bool), i.config.creep ≤ i.config.vMax →
    speedLaw i = .output v arrived dAuth dTgt →
      v ≤ isqrt (2 * i.config.brake * dAuth) ∧ v * v ≤ 2 * i.config.brake * dAuth ∧ v ≤ i.config.vMax ∧
      (arrived = true → v = 0) ∧
      (i.prevSpeed < v → v ≤ i.prevSpeed + max 1 (i.config.accel * rampInterval i.now i.prevTime / 1000))

/-- R93, R95, R96: the extrapolated reference, the trim and the trimmed speed, and their bounds: a trim within the trim limit, a
speed at most v_max and never against the mover's direction, 0 when V is 0, and V − trim where no limit acts. -/
def Obligations.TrimRules : Prop :=
  (∀ (r v : Int) (dt : Nat), extrapolate r v dt = r + (v * dt).tdiv 1000) ∧
  (∀ (c : MoverConfig) (skew : Int),
    (trimFor c skew).natAbs ≤ c.trimLimit ∧ (c.gain = 0 ∨ c.trimLimit = 0 → trimFor c skew = 0) ∧
    (((skew * c.gain).tdiv 16).natAbs ≤ c.trimLimit → trimFor c skew = (skew * c.gain).tdiv 16)) ∧
  ∀ (v trim : Int) (d : Dir) (vMax : Nat),
    trimmedSpeed 0 trim d vMax = 0 ∧ (trimmedSpeed v trim d vMax).natAbs ≤ vMax ∧
    0 ≤ trimmedSpeed v trim d vMax * d.sign ∧
    (v ≠ 0 → 0 ≤ (v - trim) * d.sign → (v - trim).natAbs ≤ vMax → trimmedSpeed v trim d vMax = v - trim) ∧
    (v ≠ 0 → (v - trim) * d.sign < 0 → trimmedSpeed v trim d vMax = 0) ∧
    (v ≠ 0 → 0 ≤ (v - trim) * d.sign → vMax < (v - trim).natAbs → trimmedSpeed v trim d vMax = d.sign * vMax)

/-- R102: k completed steps move the cursor by 37 each, modulo 128; index x is under it exactly after ((x − c) × 45) mod 128
further steps; and in 128 consecutive steps it meets each index exactly once. -/
def Obligations.CursorVisitsEveryIndex : Prop :=
  ∀ s : State, s.proving.cursor < 128 →
    (∀ k : Nat, ((State.completeStep)^[k] s).proving.cursor = (s.proving.cursor + 37 * k) % 128) ∧
    (∀ x k : Nat, x < 128 → k < 128 →
      (((State.completeStep)^[k] s).proving.cursor = x ↔ k = ((x + 128 - s.proving.cursor) * 45) % 128)) ∧
    ∀ x : Nat, x < 128 → ∃ k, k < 128 ∧ ((State.completeStep)^[k] s).proving.cursor = x ∧
      ∀ j, j < 128 → ((State.completeStep)^[j] s).proving.cursor = x → j = k

/-- R4: first fit gives the lowest base at which the count fits, and finds none exactly when the count exceeds the largest free
run; the largest free run is a run of unallocated indices, and no longer one exists. -/
def Obligations.FirstFitLowest : Prop :=
  ∀ (tracks : Vector (Option Track) 4) (n : Nat), 1 ≤ n →
    (∀ b, firstFit tracks n = some b ↔
      ((b + n ≤ 128 ∧ ∀ i < n, allocated tracks (b + i) = false) ∧
        ∀ b' < b, ¬ (b' + n ≤ 128 ∧ ∀ i < n, allocated tracks (b' + i) = false))) ∧
    (firstFit tracks n = none ↔ largestFreeRun tracks < n) ∧
    ∀ b, b + n ≤ 128 → (∀ i < n, allocated tracks (b + i) = false) → n ≤ largestFreeRun tracks

/-- R9, R10: a position from the track's start to below its end lies in exactly one place and any other in none. A footprint
lies on the track when its bounds lie from start to end position and it overlaps a segment; within those bounds it fails to only
when both are the end position. The places it overlaps are then one unbroken run from the place its low bound lies in to the
place its high bound lies in, or the last place when the high bound is the track's end. -/
def Obligations.FootprintPlaces : Prop :=
  ∀ t : Track, (∀ g ∈ t.segs, 0 < g.len) →
    (∀ x : Nat, t.start ≤ x → x < t.endPos →
      ∃ p < t.count, t.inPlace x p = true ∧ ∀ q < t.count, t.inPlace x q = true → q = p) ∧
    (∀ x p : Nat, x < t.start ∨ t.endPos ≤ x → p < t.count → t.inPlace x p = false) ∧
    (∀ lo hi : Int, t.liesOn lo hi = true ↔
      (t.start : Int) ≤ lo ∧ hi ≤ t.endPos ∧
        ∃ p < t.count, lo < (t.segStart (p + 1) : Int) ∧ (t.segStart p : Int) ≤ hi) ∧
    (∀ lo hi : Int, lo ≤ hi → (t.start : Int) ≤ lo → hi ≤ t.endPos →
      (t.liesOn lo hi = false ↔ lo = t.endPos ∧ hi = t.endPos)) ∧
    ∀ lo hi : Int, lo ≤ hi → t.liesOn lo hi = true →
      ∃ low high : Nat, low ≤ high ∧ high < t.count ∧
        (∀ p < t.count, t.overlaps lo hi p = true ↔ low ≤ p ∧ p ≤ high) ∧ t.inPlace lo.toNat low = true ∧
        (hi < t.endPos → t.inPlace hi.toNat high = true) ∧ (hi = t.endPos → high + 1 = t.count)

/-! ### Tracks -/

/-- R5, R7, R8: DEFINE_TRACK of a track that R5 and R6 pass, with a base found by first fit over the table without the track's
own block, stores the record with fresh segment records and answers OK with base and end position. REMOVE_TRACK of a track that
the checks of R6 pass makes it undefined and answers the number of indices freed, which is zero, with nothing changed, for a
track that is undefined already. Nothing else changes but the INTRUSION alert that follows. -/
def Obligations.TracksDefinedAndRemoved : Prop :=
  ∀ (s : State) (k : TrackNo), s.resetLow = false → s.TrackFree k →
    (∀ (start base : Nat) (lengths : List Nat),
      start ≤ 999999 → 1 ≤ lengths.length → lengths.length ≤ 64 → (∀ n ∈ lengths, 1000 ≤ n ∧ n ≤ 60000) →
      start + lengths.sum ≤ 1000000 → firstFit (tset s.tracks k none) lengths.length = some base →
        exec (.defineTrack k.val start lengths.length lengths) s = .next (State.updateAlerts
          { s with
            tracks := tset s.tracks k (some
              { start := start, base := base, serial := s.serial
                segs := lengths.map fun n =>
                  { len := n, holder := none, blocked := false, suspect := false, proven := none } })
            serial := s.serial + 1
            answer := some
              { code := 0x01#8, status := .ok, items := [u8 base, s24 ((start + lengths.sum : Nat) : Int)] } })) ∧
    (∀ t, s.track k = some t →
      exec (.removeTrack k.val) s = .next (State.updateAlerts
        { s with
          tracks := tset s.tracks k none
          answer := some { code := 0x02#8, status := .ok, items := [u8 t.segs.length] } })) ∧
    (s.track k = none →
      exec (.removeTrack k.val) s = .next { s with answer := some { code := 0x02#8, status := .ok, items := [u8 0] } })

/-- R5, R6, R7, R176: a list of lengths that disagrees with its count is answered BAD_REQUEST with the expected length, a free value
where that fits no byte (log entries 15, 22); then the refusals of DEFINE_TRACK in their order, each changing nothing: the range items with their ordinals (a
length with its place), a mover in service on the track, a HELD or BLOCKED segment, no room; and the same state checks of
REMOVE_TRACK (R8). That REMOVE_TRACK's REFUSED_RANGE has an empty body is the model's choice (log entry 13). -/
def Obligations.TrackRefusals : Prop :=
  ∀ (s : State) (track start : Nat) (lengths : List Nat), s.resetLow = false →
    let answers (status : Status) (items : List Item) : Prop :=
      exec (.defineTrack track start lengths.length lengths) s =
        .next { s with answer := some { code := 0x01#8, status := status, items := items } }
    let removal (status : Status) (items : List Item) : Prop :=
      exec (.removeTrack track) s = .next { s with answer := some { code := 0x02#8, status := status, items := items } }
    let inRange : Prop := track ≤ 3 ∧ start ≤ 999999 ∧ 1 ≤ lengths.length ∧ lengths.length ≤ 64 ∧
      (∀ n ∈ lengths, 1000 ≤ n ∧ n ≤ 60000) ∧ start + lengths.sum ≤ 1000000
    (∀ count, count ≠ lengths.length →
      exec (.defineTrack track start count lengths) s = .next
        { s with
          answer := some
            { code := 0x01#8, status := .badRequest
              items :=
                [u8 0x02, u8 (if 5 + 2 * count ≤ 255 then 5 + 2 * count
                  else (Config.freeExpectedLength (some count)).toNat : Nat)] } }) ∧
    (3 < track → answers .refusedRange [u8 1] ∧ removal .refusedRange []) ∧
    (track ≤ 3 → 999999 < start → answers .refusedRange [u8 2]) ∧
    (track ≤ 3 → start ≤ 999999 → lengths = [] ∨ 64 < lengths.length → answers .refusedRange [u8 3]) ∧
    (∀ before bad behind, lengths = before ++ bad :: behind → track ≤ 3 → start ≤ 999999 → lengths.length ≤ 64 →
      (∀ n ∈ before, 1000 ≤ n ∧ n ≤ 60000) → bad < 1000 ∨ 60000 < bad →
        answers .refusedRange [u8 4, u8 before.length]) ∧
    (track ≤ 3 → start ≤ 999999 → 1 ≤ lengths.length → lengths.length ≤ 64 → (∀ n ∈ lengths, 1000 ≤ n ∧ n ≤ 60000) →
      1000000 < start + lengths.sum → answers .refusedRange [u8 5]) ∧
    ∀ k : TrackNo, k.val = track →
      (∀ m : MoverNo, s.onTrack m k → (s.mover m).state ≠ .lockedOut →
        (∀ n : MoverNo, n < m → s.onTrack n k → (s.mover n).state = .lockedOut) →
          (inRange → answers .refusedState [u8 m.val]) ∧ removal .refusedState [u8 m.val]) ∧
      (∀ t p g, (∀ m, s.onTrack m k → (s.mover m).state = .lockedOut) → s.track k = some t → t.seg? p = some g →
        g.base ≠ .free → (∀ q < p, ∀ h ∈ t.seg? q, h.base = .free) →
          (inRange → answers .inUse [u8 (t.base + p)]) ∧ removal .inUse [u8 (t.base + p)]) ∧
      (inRange → s.TrackFree k → firstFit (tset s.tracks k none) lengths.length = none →
        answers .noRoom [u8 (largestFreeRun (tset s.tracks k none))])

/-- R14 to R16: BLOCK_SEGMENT and UNBLOCK_SEGMENT of every index: out of range, unallocated, held (for a block), and otherwise
the blocked flag set or cleared, the holder, suspect flag and proven-at as they were, and nothing else changed. That the
REFUSED_RANGE and REFUSED_STATE answers have empty bodies is the model's choice (log entry 13). -/
def Obligations.BlockAndUnblock : Prop :=
  ∀ (s : State) (index : Nat), s.resetLow = false →
    let blockAnswers (status : Status) (items : List Item) : Prop :=
      exec (.blockSegment index) s = .next { s with answer := some { code := 0x04#8, status := status, items := items } }
    let unblockAnswers (status : Status) (items : List Item) : Prop :=
      exec (.unblockSegment index) s = .next { s with answer := some { code := 0x05#8, status := status, items := items } }
    (127 < index → blockAnswers .refusedRange [] ∧ unblockAnswers .refusedRange []) ∧
    (index ≤ 127 → s.locate index = none → blockAnswers .refusedState [] ∧ unblockAnswers .refusedState []) ∧
    ∀ k t p g, index ≤ 127 → s.locate index = some (k, t, p) → t.segs[p]? = some g →
      (∀ h, g.holder = some h → blockAnswers .inUse [u8 h.val]) ∧
      (g.holder = none →
        exec (.blockSegment index) s = .next
          { s with
            tracks := tset s.tracks k (some { t with segs := t.segs.set p { g with blocked := true } })
            answer := some { code := 0x04#8, status := .ok, items := [] } }) ∧
      exec (.unblockSegment index) s = .next
        { s with
          tracks := tset s.tracks k (some { t with segs := t.segs.set p { g with blocked := false } })
          answer := some { code := 0x05#8, status := .ok, items := [] } }

/-- R17, R18, R36, R68, R79, R116, R132, R165, R172, R178: every query with operands in range is answered OK with its items,
here written out in order, each with its presence byte (`whenPresent`: 0, or 1 and the item), and changes nothing but the
answer; an operand out of range is refused. Of a mover whose run has no defined track, which HoldsAgree rules out, only the OK
is said. The model's choices among the items: the layout of lists and of items without a table, QUERY_QUEUE's list led by its
own count and the timers as a counted list without presence byte (log entry 11), the empty refusal bodies (log entry 13), the
lowest start among equal largest free runs (log entry 25), and the wrapped time remaining of a timer that is overdue (log entry
26). -/
def Obligations.QueriesChangeOnlyTheAnswer : Prop :=
  ([MState.lockedOut, .enrolling, .parked, .queued, .starting, .moving, .held, .stopping, .faulted].map MState.code =
      [0, 1, 2, 3, 4, 5, 6, 7, 8] ∧
    [FaultCode.estop, .overrun, .intrusion, .skew, .stationFault, .stationLost, .busyTimeout, .startTimeout, .stopTimeout,
      .permitExpired].map FaultCode.code = [0x10, 0x11, 0x12, 0x13, 0x14, 0x15, 0x16, 0x17, 0x18, 0x19] ∧
    [StopReason.arrived, .stopRequest, .wind, .authority].map StopReason.code = [1, 2, 3, 4] ∧
    (∀ f : FaultCode, (StopReason.fault f).code = f.code) ∧ [Phase.rundown, .braking].map Phase.code = [1, 2] ∧
    [EnrolResult.ok, .capability, .brakeState, .position, .station, .estop, .aborted, .timeout].map EnrolResult.items =
      [[u8 0], [u8 1], [u8 2], [u8 3], [u8 5], [u8 6], [u8 7], [u8 8]] ∧
    (∀ i, (EnrolResult.footprint i).items = [u8 4, u8 i]) ∧
    [WindClass.calm, .breezy, .strong, .storm].map WindClass.rank = [0, 1, 2, 3] ∧
    [StState.dormant, .active, .busyHalted, .lost].map StState.code = [0, 1, 2, 3] ∧
    [Role.lead, .follow, .brake].map Role.code = [1, 2, 3] ∧ [Brake.applied, .released, .transit].map Brake.code = [1, 2, 3] ∧
    [none, some Capability.driveBrake, some .brakeOnly].map capabilityCode = [0, 1, 2]) ∧
  ∀ s : State, s.resetLow = false →
    let answers (i : Instr) (code : Byte) (status : Status) (items : List Item) : Prop :=
      exec i s = .next { s with answer := some { code := code, status := status, items := items } }
    let yes := fun (b : Bool) => u8 (if b = true then 1 else 0)
    let counting := (List.finRange 12).filter fun m => (s.mover m).state.counting
    -- the tracks
    let taken := fun (i : Nat) => (List.finRange 4).any fun k =>
      match s.track k with
      | some t => decide (t.base ≤ i ∧ i < t.base + t.segs.length)
      | none => false
    let isFree := fun (b n : Nat) => b + n ≤ 128 ∧ ∀ i < n, taken (b + i) = false
    (∃ b n, isFree b n ∧ (∀ b' n', isFree b' n' → n' ≤ n ∧ (n' = n → b ≤ b')) ∧
      ∀ k : TrackNo, answers (.queryTrack k.val) 0x03#8 .ok
        ((match s.track k with
          | none => [u8 0, u8 0, u8 0, u8 0, u8 0, u8 0, u8 0, u8 0, u8 0, u8 0]
          | some t =>
            [u8 1, u8 1, s24 t.start, u8 1, u8 t.segs.length, u8 1,
              s24 ((t.start + (t.segs.map fun g => g.len).sum : Nat) : Int), u8 1, u8 t.base, u8 1, u8 t.segs.length] ++
              t.segs.map (fun g => u16 g.len) ++
              [u8 1, u8 (t.segs.countP fun g => g.holder.isNone && !g.blocked),
                u8 1, u8 (t.segs.countP fun g => g.holder.isSome),
                u8 1, u8 (t.segs.countP fun g => g.holder.isNone && g.blocked),
                u8 1, u8 (t.segs.countP fun g => g.suspect)]) ++
          [u8 ((List.range 128).countP fun i => !taken i), u8 n] ++ if n = 0 then [u8 0] else [u8 1, u8 b])) ∧
    (∀ index ≤ 127,
      (s.locate index = none →
        answers (.querySegment index) 0x06#8 .ok
          [u8 index, u8 0, u8 0, u8 0, u8 0, u8 0, u8 0, u8 0, u8 0, u8 0, u8 0]) ∧
      ∀ k t p g, s.locate index = some (k, t, p) → t.segs[p]? = some g →
        answers (.querySegment index) 0x06#8 .ok
          ([u8 index, u8 1, u8 1, u8 k.val, u8 1, u8 p, u8 1, s24 (t.segStart p), u8 1, s24 (t.segStart (p + 1)), u8 1,
            u8 (if g.holder.isSome = true then 0x01 else if g.blocked = true then 0x02 else 0x00)] ++
            (match g.holder with | some h => [u8 1, u8 h.val] | none => [u8 0]) ++ [u8 1, yes g.suspect] ++
            (match g.proven with
              | some at' => [u8 1, u32 at'.toNat, u8 1, u32 (s.now - at').toNat]
              | none => [u8 0, u8 0]))) ∧
    -- the movers
    (∀ m : MoverNo,
      let x := s.mover m
      let mine := (List.finRange 32).filter fun a => (s.station a).serves m
      let timers := [(1, x.enrolTimer), (2, x.startTimer), (3, x.permitTimer), (4, x.dwellTimer), (5, x.stopTimer)].filterMap
        fun y => y.2.map fun e => ((y.1 : Nat), (e - s.now).toNat)
      let items :=
        [u8 x.state.code] ++
        (match x.config with
          | none => List.replicate 18 (u8 0)
          | some c =>
            [u8 1, u8 1, u8 c.track.val, u8 1, s24 c.plusExtent, u8 1, s24 c.minusExtent, u8 1, u16 c.vMax, u8 1,
              u8 c.accel, u8 1, u16 c.brake, u8 1, u16 c.standoff, u8 1, u8 c.tolerance, u8 1, u8 c.creep, u8 1, u8 c.gain,
              u8 1, u8 c.trimLimit, u8 1, u16 c.skewLimit, u8 1, u16 c.resume, u8 1, u8 c.dwell, u8 1, u16 c.permit, u8 1,
              u8 c.wind, u8 1, yes c.exempt]) ++
        [u8 mine.length] ++
        mine.flatMap (fun a => [u8 (a.val + 1), u8 (match (s.station a).assign with | some y => y.role.code | none => 0)]) ++
        whenPresent x.target (fun t => [s24 t]) ++ whenPresent x.profile (fun p => [u16 p]) ++
        [u8 (match x.dir with | .plus => 0x01 | .minus => 0xFF)] ++ whenPresent x.reference (fun r => [s24 r]) ++
        whenPresent x.leadTime (fun t => [u32 (s.now - t).toNat]) ++
        (match x.config, x.reference with
          | some c, some r =>
            [u8 1, s24 (r - c.minusExtent), s24 (r + c.plusExtent), u8 1,
              s24 (match x.dir with | .plus => r + c.plusExtent | .minus => r - c.minusExtent)]
          | _, _ => [u8 0, u8 0]) ++
        [s16 x.velocity] ++ whenPresent x.phase (fun p => [u8 p.code]) ++ whenPresent x.stopReason (fun r => [u8 r.code]) ++
        whenPresent x.fault (fun f => [u8 f.code]) ++ whenPresent x.enrol EnrolResult.items ++
        (if x.state = .enrolling ∨ x.state = .starting ∨ (x.state = .stopping ∧ x.phase = some .braking) then
          [u8 1, u8 x.progress.length] ++ x.progress.map fun a => u8 (a.val + 1)
        else [u8 0]) ++
        [u8 timers.length] ++ timers.flatMap (fun y => [u8 y.1, u32 y.2]) ++
        whenPresent (s.arbiter.queue.findIdx? fun e => decide (e.mover = m)) (fun i => [u8 (i + 1)]) ++
        whenPresent x.config (fun _ => [u8 (s.windClass m).rank])
      (s.run m = none →
        answers (.queryMover m.val) 0x27#8 .ok (items ++ [u8 1, u8 0, u8 0, u8 0, u8 0, u8 0, u8 0, u8 0, u8 0])) ∧
      (∀ r k t, s.run m = some r → s.moverTrack m = some (k, t) →
        answers (.queryMover m.val) 0x27#8 .ok
          (items ++
            [u8 0, u8 1, u8 r.low, u8 1, u8 r.high, u8 1, u8 (t.base + r.low), u8 1, u8 (t.base + r.high), u8 1,
              u8 (r.high - r.low + 1), u8 1, u8 (match x.dir with | .plus => 0x01 | .minus => 0x02), u8 1,
              s24 (match x.dir with | .plus => t.segStart (r.high + 1) | .minus => t.segStart r.low : Nat), u8 1,
              u8 (t.segs.zipIdx.countP fun g => g.1.suspect && decide (r.low ≤ g.2) && decide (g.2 ≤ r.high))])) ∧
      ∃ all, answers (.queryMover m.val) 0x27#8 .ok all) ∧
    -- the stations
    (∀ a : StationNo,
      let st := s.station a
      let common :=
        [u8 st.state.code, u8 st.generation.toNat] ++
        (match st.assign with
          | none => [u8 0, u8 0, u8 0, u8 0, u8 0]
          | some x =>
            [u8 1, u8 x.mover.val, u8 1, u8 x.role.code, u8 1, s24 x.offset, u8 1, u16 x.poll, u8 1, u8 x.busyExp]) ++
        [u8 (capabilityCode st.capability), u8 (s.linkOf a).attempts, u16 (s.linkOf a).busy]
      answers (.queryStation (a.val + 1) 0x01) 0x32#8 .ok
        (common ++
          (match st.standing with
            | none => [u8 0]
            | some .sample => [u8 1]
            | some (.drive v release) => [u8 2, s16 v, yes release]
            | some .hold => [u8 3]
            | some .ident => [u8 4]) ++
          [yes st.urgent] ++
          (match st.lastSent with
            | none => [u8 0, u8 0]
            | some (c, sent) =>
              (match c with
                | .sample => [u8 1, u8 1, s16 0, u8 0]
                | .drive v release => [u8 1, u8 2, s16 v, yes release]
                | .hold => [u8 1, u8 3, s16 0, u8 0]
                | .ident => [u8 1, u8 4, s16 0, u8 0]) ++ [u8 1, u32 (s.now - sent).toNat]) ++
          [s16 st.trim]) ∧
      answers (.queryStation (a.val + 1) 0x02) 0x32#8 .ok
        (common ++
          match st.report with
          | none => [u8 0, u8 0]
          | some r =>
            [u8 1, s24 (match r.position with | some p => (p : Int) | none => 0xFFFFFF), s16 r.speed, u8 r.brake.code,
              u8 r.faultCode] ++ whenPresent r.capability (fun c => [u8 (capabilityCode (some c))]) ++
              [u8 1, u32 (s.now - r.arrival).toNat])) ∧
    -- the wind
    answers .queryWind 0x61#8 .ok
      ((List.finRange 3).flatMap (fun ch =>
          let c := tget s.wind.channels ch
          whenPresent c.raw (fun r => [u16 r]) ++ [yes c.available] ++
            (match c.available, c.stats with
              | true, some x => [u8 1, u16 x.mean, u8 1, u16 x.qmean, u8 1, u16 x.min, u8 1, u16 x.max]
              | _, _ => [u8 0, u8 0, u8 0, u8 0]) ++
            [u8 (match c.cls with | .live k => k.rank | .dead => 4), yes c.provisional, yes c.dead, yes c.gustTrip,
              u8 c.samples]) ++
        [u16 s.wind.settings.scale0, u16 s.wind.settings.scale1, u16 s.wind.settings.scale2, u8 s.wind.settings.window,
          u16 s.wind.settings.breezyQ, u16 s.wind.settings.strongQ, u16 s.wind.settings.strongGust,
          u16 s.wind.settings.stormQ, u16 s.wind.settings.stormGust, u8 s.wind.settings.hysteresis]) ∧
    -- the rest
    answers .queryQueue 0x41#8 .ok
      ([u8 s.arbiter.limit, u8 s.arbiter.count, u8 counting.length] ++ counting.map (fun m => u8 m.val) ++
        [u8 s.arbiter.queue.length, u8 s.arbiter.queue.length] ++
        s.arbiter.queue.flatMap fun e => [u8 e.mover.val, u32 (s.now - e.since).toNat]) ∧
    answers .queryProving 0x51#8 .ok
      ([u16 s.proving.interval, u16 s.proving.stale, u8 s.proving.cursor] ++
        (match s.proving.step with
          | some q => [u8 1, u8 1, u8 q.index, u8 1, u8 (q.awaited.val + 1), u8 1, u32 (s.now - q.since).toNat]
          | none => [u8 0, u8 0, u8 0, u8 0]) ++
        (match s.proving.last with | some t => [u8 1, u32 t.toNat] | none => [u8 0]) ++
        [u32 (s.proving.expiry - s.now).toNat]) ∧
    answers .queryAlerts 0x70#8 .ok
      (alertNames.flatMap (fun n => [yes (s.alerts.get n).active, yes (s.alerts.get n).latched]) ++
        [yes (alertNames.any fun n => (s.alerts.get n).latched), yes s.inputs.chainOpen] ++
        (match s.inputs.lastOpening with | some t => [u8 1, u32 t.toNat] | none => [u8 0])) ∧
    (∀ n, 3 < n → answers (.queryTrack n) 0x03#8 .refusedRange []) ∧
    (∀ n, 127 < n → answers (.querySegment n) 0x06#8 .refusedRange []) ∧
    (∀ n, 11 < n → answers (.queryMover n) 0x27#8 .refusedRange []) ∧
    ∀ a v, a = 0 ∨ 32 < a ∨ (v ≠ 0x01 ∧ v ≠ 0x02) → answers (.queryStation a v) 0x32#8 .refusedRange []

/-! ### Holds -/

/-- R23, R24: an accepted RESERVE extends the run at the named end over as many takeable segments as stand next to it, up to the
count, and answers OK, PARTIAL or REFUSED_CONFLICT with the stop reason, the stopping index, the run and the authority end. The
granted segments get the mover as holder; nothing else changes. The layout of the answer's items is the model's reading of R178
(log entry 11). -/
def Obligations.ReserveExtends : Prop :=
  ∀ (s : State) (m : MoverNo) (k : TrackNo) (t : Track) (r : Run) (count : Nat) (atPlus : Bool), s.resetLow = false →
    (s.mover m).state.holding = true → s.moverTrack m = some (k, t) → s.run m = some r → r.low ≤ r.high →
    r.high < t.count → 1 ≤ count → count ≤ 64 →
    ∃ g ≤ count, (if atPlus = true then r.high + g < t.count else g ≤ r.low) ∧
      (∀ i, 1 ≤ i → i ≤ g → t.stopAt (some (if atPlus = true then r.high + i else r.low - i)) = none) ∧
      let beyond := if atPlus = true then some (r.high + g + 1) else if r.low = g then none else some (r.low - g - 1)
      let stop := if g = count then none else t.stopAt beyond
      let low := if atPlus = true then r.low else r.low - g
      let high := if atPlus = true then r.high + g else r.high
      (g < count → stop ≠ none) ∧
      exec (.reserve m.val (if atPlus = true then 0x01 else 0x02) count) s = .next
        { s with
          tracks := tset s.tracks k (some
            { t with
              segs := t.segs.mapIdx fun p x =>
                if (low ≤ p ∧ p < r.low) ∨ (r.high < p ∧ p ≤ high) then { x with holder := some m } else x })
          runs := tset s.runs m (some { low := low, high := high })
          answer := some
            { code := 0x10#8
              status := if g = count then .ok else if g = 0 then .refusedConflict else .partialGrant
              items :=
                [u8 g] ++ whenPresent stop ReserveStop.items ++ whenPresent (stop.bind ReserveStop.index) (fun i => [u8 i]) ++
                  [u8 low, u8 high, u8 (t.base + low), u8 (t.base + high),
                    s24 (match (s.mover m).dir with | .plus => t.segStart (high + 1) | .minus => t.segStart low)] } }

/-- R26, R27: an accepted RELEASE frees segments from the named end, stopping before one the mover's footprint overlaps
(FOOTPRINT) or before the last of the run (LAST), up to the count, and answers OK or IN_USE with the run and the stop. The freed
segments lose their holder alone; nothing else changes. The layout of the answer's items is the model's reading of R178 (log
entry 11). -/
def Obligations.ReleaseShrinks : Prop :=
  ∀ (s : State) (m : MoverNo) (k : TrackNo) (t : Track) (r : Run) (count : Nat) (atPlus : Bool), s.resetLow = false →
    (s.mover m).state.holding = true → s.moverTrack m = some (k, t) → s.run m = some r → r.low ≤ r.high →
    r.high < t.count → 1 ≤ count → count ≤ 64 →
    ((s.mover m).state.counting = true →
      (s.mover m).dir ≠ (if atPlus = true then .plus else .minus) ∧ r.low < r.high) →
    ∃ g ≤ count, g ≤ r.high - r.low ∧
      let place := fun i => if atPlus = true then r.high - i else r.low + i
      let guarded := fun i => protects (s.mover m).footprint t (place i)
      (∀ i < g, guarded i = false) ∧ (g < count → guarded g = true ∨ g = r.high - r.low) ∧
      let stop := if g = count then none else if guarded g = true then some (ReleaseCause.footprint, place g)
        else some (ReleaseCause.last, place g)
      let low := if atPlus = true then r.low else r.low + g
      let high := if atPlus = true then r.high - g else r.high
      exec (.release m.val (if atPlus = true then 0x01 else 0x02) count) s = .next
        { s with
          tracks := tset s.tracks k (some
            { t with
              segs := t.segs.mapIdx fun p x =>
                if (r.low ≤ p ∧ p < low) ∨ (high < p ∧ p ≤ r.high) then { x with holder := none } else x })
          runs := tset s.runs m (some { low := low, high := high })
          answer := some
            { code := 0x11#8
              status := if g = count then .ok else .inUse
              items :=
                [u8 g, u8 low, u8 high, u8 (t.base + low), u8 (t.base + high),
                  s24 (match (s.mover m).dir with | .plus => t.segStart (high + 1) | .minus => t.segStart low)] ++
                  whenPresent stop (fun c => [u8 c.1.code]) ++ whenPresent stop (fun c => [u8 (t.base + c.2)]) } }

/-- R22, R25: the refusals of RESERVE and RELEASE in their order, each changing nothing and naming the failing operand, the
mover's state, or FRONT for a release at the front end of a mover in motion. R25 names no item for RELEASE's checks 1 to 4: that
they carry the items of RESERVE's is the model's choice (log entry 13). -/
def Obligations.RunRequestsRefused : Prop :=
  ∀ (s : State) (mover endCode count : Nat), s.resetLow = false →
    let both (status : Status) (items : List Item) : Prop :=
      exec (.reserve mover endCode count) s =
        .next { s with answer := some { code := 0x10#8, status := status, items := items } } ∧
      exec (.release mover endCode count) s =
        .next { s with answer := some { code := 0x11#8, status := status, items := items } }
    (11 < mover → both .refusedRange [u8 1]) ∧
    (mover ≤ 11 → endCode ≠ 0x01 → endCode ≠ 0x02 → both .refusedRange [u8 2]) ∧
    (mover ≤ 11 → endCode = 0x01 ∨ endCode = 0x02 → count = 0 ∨ 64 < count → both .refusedRange [u8 3]) ∧
    ∀ m : MoverNo, m.val = mover → endCode = 0x01 ∨ endCode = 0x02 → 1 ≤ count → count ≤ 64 →
      ((s.mover m).state.holding = false → both .refusedState [u8 (s.mover m).state.code]) ∧
      ((s.mover m).state.counting = true →
        (s.mover m).dir = (if endCode = 0x01 then .plus else .minus) ∨ (∃ r, s.run m = some r ∧ r.low = r.high) →
          exec (.release mover endCode count) s =
            .next { s with answer := some { code := 0x11#8, status := .refusedState, items := [u8 0x03] } })

/-- R32, R33, R109: the first message on its way about an index is taken by the command that delivers it: a Consistent finding
clears suspect and sets proven-at, an Inconsistent one sets suspect, both only on the record the finding is on; a trailing
release frees the segment and shortens the run when its conditions hold then, and does nothing else. The model's choices (log
entry 5): messages wait, the oldest about an index first, a record is known by its definition's identity, and a command without
a message of its kind in front does nothing. -/
def Obligations.SweepMessagesTaken : Prop :=
  ∀ (s : State) (index : Nat), s.resetLow = false →
    (∀ before behind x, s.toReservation = before ++ x :: behind → (∀ y ∈ before, y.index ≠ index) → x.index = index →
      let taken := { s with toReservation := before ++ behind }
      (∀ serial time, x = .consistent index serial time →
        (∀ k t p g, s.locate index = some (k, t, p) → t.serial = serial → t.segs[p]? = some g →
          exec (.consistentFinding index) s = .next (State.updateAlerts
            { taken with
              tracks := tset s.tracks k (some
                { t with segs := t.segs.set p { g with suspect := false, proven := some time } }) })) ∧
        (s.locate index = none ∨ (∃ k t p, s.locate index = some (k, t, p) ∧ t.serial ≠ serial) →
          exec (.consistentFinding index) s = .next (State.updateAlerts taken)) ∧
        exec (.inconsistentFinding index) s = .next s ∧ exec (.trailingRelease index) s = .next s) ∧
      (∀ serial, x = .inconsistent index serial →
        (∀ k t p g, s.locate index = some (k, t, p) → t.serial = serial → t.segs[p]? = some g →
          exec (.inconsistentFinding index) s = .next (State.updateAlerts
            { taken with tracks := tset s.tracks k (some { t with segs := t.segs.set p { g with suspect := true } }) })) ∧
        (s.locate index = none ∨ (∃ k t p, s.locate index = some (k, t, p) ∧ t.serial ≠ serial) →
          exec (.inconsistentFinding index) s = .next (State.updateAlerts taken)) ∧
        exec (.consistentFinding index) s = .next s ∧ exec (.trailingRelease index) s = .next s) ∧
      ∀ h, x = .trailing index h →
        exec (.consistentFinding index) s = .next s ∧ exec (.inconsistentFinding index) s = .next s ∧
        (∀ k t p g r, s.locate index = some (k, t, p) → t.segs[p]? = some g → g.holder = some h → s.onTrack h k →
          s.run h = some r → r.low < r.high →
          p = (match (s.mover h).dir with | .plus => r.low | .minus => r.high) →
          (s.mover h).state = .moving ∨ (s.mover h).state = .stopping →
            exec (.trailingRelease index) s = .next
              { taken with
                tracks := tset s.tracks k (some { t with segs := t.segs.set p { g with holder := none } })
                runs := tset s.runs h (some (match (s.mover h).dir with
                  | .plus => { low := r.low + 1, high := r.high }
                  | .minus => { low := r.low, high := r.high - 1 })) }) ∧
        ((∀ g, s.segAt index = some g → g.holder ≠ some h) ∨
          (∀ r, s.run h = some r → r.high ≤ r.low) ∨
          ((s.mover h).state ≠ .moving ∧ (s.mover h).state ≠ .stopping) ∨
          (∀ k t p r, s.locate index = some (k, t, p) → s.run h = some r →
            p ≠ (match (s.mover h).dir with | .plus => r.low | .minus => r.high)) →
          exec (.trailingRelease index) s = .next taken)) ∧
    ((∀ x ∈ s.toReservation, x.index ≠ index) →
      exec (.consistentFinding index) s = .next s ∧ exec (.inconsistentFinding index) s = .next s ∧
        exec (.trailingRelease index) s = .next s)

/-! ### Movers out of and into service -/

/-- R38: CONFIGURE_MOVER of a LOCKED_OUT mover with every field in range replaces the configuration, storing a creep speed above
v_max as v_max, clears target and profile speed, and answers the creep speed as stored; its refusals (mover, state, the first
field out of range by its ordinal) change nothing. That a mover number above 11 is refused with an empty body is the model's
choice (log entry 13). -/
def Obligations.ConfigureMover : Prop :=
  ∀ (s : State) (mover : Nat) (raw : RawConfig), s.resetLow = false →
    let refused (status : Status) (items : List Item) : Prop :=
      exec (.configureMover mover raw) s =
        .next { s with answer := some { code := 0x20#8, status := status, items := items } }
    (11 < mover → refused .refusedRange []) ∧
    ∀ m : MoverNo, m.val = mover →
      ((s.mover m).state ≠ .lockedOut → refused .refusedState [u8 (s.mover m).state.code]) ∧
      ((s.mover m).state = .lockedOut → ∀ item, rawFailure raw = some item → refused .refusedRange [u8 item]) ∧
      ((s.mover m).state = .lockedOut → rawFailure raw = none →
        ∀ k : TrackNo, k.val = raw.track →
          exec (.configureMover mover raw) s = .next
            { s with
              movers := tset s.movers m
                { s.mover m with
                  config := some
                    { track := k, plusExtent := raw.plusExtent, minusExtent := raw.minusExtent, vMax := raw.vMax,
                      accel := raw.accel, brake := raw.brake, standoff := raw.standoff, tolerance := raw.tolerance,
                      creep := min raw.creep raw.vMax, gain := raw.gain, trimLimit := raw.trimLimit,
                      skewLimit := raw.skewLimit, resume := raw.resume, dwell := raw.dwell, permit := raw.permit,
                      wind := raw.wind, exempt := decide (raw.exempt = 1) }
                  target := none, profile := none }
              answer := some { code := 0x20#8, status := .ok, items := [u8 (min raw.creep raw.vMax)] } })

/-- R45, R46, R123, R146: UNLOCK of a LOCKED_OUT mover that passes the checks of R45 puts it in ENROLLING with its enrol timer
started, its stations ACTIVE with IDENT standing and due at once; the refusals of R45, in their order, change nothing. -/
def Obligations.UnlockEntersEnrolling : Prop :=
  ∀ (s : State) (mover : Nat), s.resetLow = false →
    let refused (status : Status) (items : List Item) : Prop :=
      exec (.unlock mover) s = .next { s with answer := some { code := 0x21#8, status := status, items := items } }
    (11 < mover → refused .refusedRange []) ∧
    ∀ m : MoverNo, m.val = mover →
      ((s.mover m).state ≠ .lockedOut → refused .refusedState [u8 (s.mover m).state.code]) ∧
      ((s.mover m).state = .lockedOut → s.inputs.chainOpen = true → refused .refusedEstop []) ∧
      ((s.mover m).state = .lockedOut → s.inputs.chainOpen = false →
        ((s.mover m).config = none → refused .refusedConfig [u8 0xFF]) ∧
        ∀ c, (s.mover m).config = some c →
          (s.leadCount m ≠ 1 → refused .refusedConfig [u8 (s.leadCount m)]) ∧
          (s.leadCount m = 1 →
            let outside := fun a => ∃ x ∈ (s.station a).assign, x.mover = m ∧
              (x.offset < -(c.minusExtent : Int) ∨ (c.plusExtent : Int) < x.offset)
            (∀ a, outside a → (∀ b, b < a → ¬ outside b) → refused .refusedConfig [u8 (a.val + 1)]) ∧
            ((∀ a, ¬ outside a) →
              exec (.unlock mover) s = .next (State.updateAlerts
                { s with
                  movers := tset s.movers m
                    { (s.mover m).leave with
                      state := .enrolling, reference := none, leadTime := none, fault := none, enrol := none
                      progress := [], enrolTimer := some (s.now + 5000#32) }
                  stations := tmap (fun _ st => if st.serves m = true then
                    { st with
                      state := .active, report := none, capability := none, standing := some .ident, urgent := false }
                    else st) s.stations
                  link :=
                    { s.link with
                      links := tmap (fun a l => if (s.station a).serves m = true then
                        { l with attempts := 0, busy := 0, retry := none, due := some s.now } else l) s.link.links }
                  answer := some { code := 0x21#8, status := .ok, items := [] } }))))

/-- R31, R39, R48, R64, R123, R146: LOCK by state. From PARKED or FAULTED the run's segments lose their holder and become
BLOCKED and the run empty; from ENROLLING the result is ABORTED and no segment changes; from both the mover is LOCKED_OUT and
its stations DORMANT with no command standing, no retry, no due time and no priority request. In LOCKED_OUT nothing changes, and
in the other states LOCK is refused with the state. That a mover number above 11 is refused with an empty body is the model's
choice (log entry 13). -/
def Obligations.LockByState : Prop :=
  ∀ (s : State) (mover : Nat), s.resetLow = false →
    let answers (status : Status) (items : List Item) : Prop :=
      exec (.lock mover) s = .next { s with answer := some { code := 0x22#8, status := status, items := items } }
    (11 < mover → answers .refusedRange []) ∧
    ∀ m : MoverNo, m.val = mover →
      ((s.mover m).state = .lockedOut → answers .ok []) ∧
      ((s.mover m).state = .queued ∨ (s.mover m).state.counting = true ∨ (s.mover m).state = .held →
        answers .refusedState [u8 (s.mover m).state.code]) ∧
      ((s.mover m).state = .enrolling → ∃ t, exec (.lock mover) s = .next t.updateAlerts ∧
        s.LeavesService t m (some .aborted) ∧ t.tracks = s.tracks ∧ t.runs = s.runs ∧
        t.answer = some { code := 0x22#8, status := .ok, items := [] }) ∧
      ((s.mover m).state = .parked ∨ (s.mover m).state = .faulted →
        ∀ k d r, s.moverTrack m = some (k, d) → s.run m = some r →
          ∃ t, exec (.lock mover) s = .next t.updateAlerts ∧ s.LeavesService t m none ∧
            t.tracks = tset s.tracks k (some
              { d with
                segs := d.segs.mapIdx fun p g =>
                  if r.low ≤ p ∧ p ≤ r.high then { g with holder := none, blocked := true } else g }) ∧
            t.runs = tset s.runs m none ∧ t.answer = some { code := 0x22#8, status := .ok, items := [] })

/-- R60: RESET_FAULT of a FAULTED mover, with the chain closed, no station LOST or BUSY_HALTED and every station's latest report
APPLIED, puts it in PARKED with HOLD standing, the fault code absent, the stop reason and the run kept; its refusals, in their
order, change nothing. A station without report is named with a byte that nothing constrains (log entry 14). That HOLD stands
without the urgent mark afterwards is the model's choice (log entry 18). -/
def Obligations.ResetFault : Prop :=
  ∀ (s : State) (mover : Nat), s.resetLow = false →
    let refused (status : Status) (items : List Item) : Prop :=
      exec (.resetFault mover) s = .next { s with answer := some { code := 0x26#8, status := status, items := items } }
    (11 < mover → refused .refusedRange []) ∧
    ∀ m : MoverNo, m.val = mover →
      let failed := fun a => (s.station a).serves m = true ∧ ((s.station a).state = .lost ∨ (s.station a).state = .busyHalted)
      let unbraked := fun a => (s.station a).serves m = true ∧ ∀ r ∈ (s.station a).report, r.brake ≠ .applied
      (s.inputs.chainOpen = true → refused .refusedEstop []) ∧
      (s.inputs.chainOpen = false → (s.mover m).state ≠ .faulted → refused .refusedState [u8 (s.mover m).state.code]) ∧
      (s.inputs.chainOpen = false → (s.mover m).state = .faulted →
        (∀ a, failed a → (∀ b, b < a → ¬ failed b) →
          refused .refusedState [u8 (a.val + 1), u8 (s.station a).state.code]) ∧
        ((∀ a, ¬ failed a) →
          (∀ a, unbraked a → (∀ b, b < a → ¬ unbraked b) →
            ∃ item, refused .refusedState [u8 (a.val + 1), item] ∧
              ∀ r, (s.station a).report = some r → item = u8 r.brake.code) ∧
          ((∀ a, ¬ unbraked a) →
            exec (.resetFault mover) s = .next (State.updateAlerts
              { s with
                movers := tset s.movers m { (s.mover m).leave with state := .parked, fault := none }
                stations := tmap (fun _ st => if st.serves m = true then
                  { st with standing := some .hold, urgent := false } else st) s.stations
                answer := some { code := 0x26#8, status := .ok, items := [] } }))))

/-! ### Moves and stops -/

/-- R10, R61, R62, R71, R72, R52, R91: a MOVE of a PARKED or HELD mover that passes the checks of R61 sets target, profile speed
(no more than v_max) and direction and is decided at once: STARTING, with its timer, an empty progress set, DRIVE 0 and release
standing and every trim 0, when the count is below the limit and no one waits; otherwise QUEUED at the tail with HOLD standing,
the answer giving the place. Nothing else changes. The model's choices: the layout of the OK answer's items (log entry 11), and that
a target of 1,000,000, above the positions of R1, is taken where the footprint there lies on the track (log entry 30). -/
def Obligations.MoveFromRest : Prop :=
  ∀ (s : State) (m : MoverNo) (c : MoverConfig) (k : TrackNo) (t : Track) (r : Int) (target profile : Nat),
    s.resetLow = false → (s.mover m).state = .parked ∨ (s.mover m).state = .held → (s.mover m).config = some c →
    s.moverTrack m = some (k, t) → (s.mover m).reference = some r → 1 ≤ profile →
    (t.start : Int) ≤ target - c.minusExtent → (target : Int) + c.plusExtent ≤ t.endPos →
    (∃ p < t.count, t.overlaps ((target : Int) - c.minusExtent) ((target : Int) + c.plusExtent) p = true) →
    (s.windClass m = .storm → c.exempt = true) → s.inputs.chainOpen = false →
    c.tolerance < ((target : Int) - r).natAbs →
    let stored := min profile c.vMax
    let x : Mover :=
      { (s.mover m).leave with
        target := some target, profile := some stored, dir := if r < (target : Int) then .plus else .minus }
    let standing := fun (cmd : Command) (reset : Bool) =>
      tmap (fun _ st => if st.serves m = true then
        { st with standing := some cmd, urgent := false, trim := if reset = true then 0 else st.trim } else st) s.stations
    (s.arbiter.count < s.arbiter.limit → s.arbiter.queue = [] →
      exec (.move m.val target profile) s = .next
        { s with
          movers := tset s.movers m
            { x with state := .starting, progress := [], startTimer := some (s.now + 3000#32) }
          stations := standing (.drive 0 true) true
          arbiter := { s.arbiter with count := s.arbiter.count + 1 }
          answer := some { code := 0x23#8, status := .ok, items := [u16 stored, u8 0x04, u8 0] } }) ∧
    (s.arbiter.limit ≤ s.arbiter.count ∨ s.arbiter.queue ≠ [] → (∀ e ∈ s.arbiter.queue, e.mover ≠ m) →
      exec (.move m.val target profile) s = .next
        { s with
          movers := tset s.movers m { x with state := .queued }
          stations := standing .hold false
          arbiter := { s.arbiter with queue := s.arbiter.queue ++ [{ mover := m, since := s.now }] }
          answer := some
            { code := 0x23#8, status := .ok
              items := [u16 stored, u8 0x03, u8 1, u8 (s.arbiter.queue.length + 1)] } })

/-- R10, R61, R62: the other endings of MOVE, in the order of its checks: mover number, a state without run, profile speed and
the footprint at the target, which must lie on the track in the sense of R10, wind, chain, a target within the tolerance (DONE);
then, by state, a new target and profile speed for a mover under way in the same direction, REFUSED_DIRECTION in the other,
REFUSED_STATE in STOPPING and FAULTED. The model's choices: the empty bodies of the refusals and of DONE (log entry 13), the OK
answer's items (log entry 11), and that a target of 1,000,000, above the positions of R1, is judged by the footprint alone (log
entry 30). -/
def Obligations.MoveInMotionOrRefused : Prop :=
  ∀ (s : State) (mover target profile : Nat), s.resetLow = false →
    let answers (status : Status) (items : List Item) : Prop :=
      exec (.move mover target profile) s =
        .next { s with answer := some { code := 0x23#8, status := status, items := items } }
    (11 < mover → answers .refusedRange []) ∧
    ∀ m : MoverNo, m.val = mover →
      ((s.mover m).state = .lockedOut ∨ (s.mover m).state = .enrolling → answers .refusedState []) ∧
      ∀ (c : MoverConfig) (k : TrackNo) (t : Track) (r : Int),
        (s.mover m).state ≠ .lockedOut → (s.mover m).state ≠ .enrolling → (s.mover m).config = some c →
        s.moverTrack m = some (k, t) → (s.mover m).reference = some r →
        let fits : Prop := (t.start : Int) ≤ target - c.minusExtent ∧ (target : Int) + c.plusExtent ≤ t.endPos ∧
          ∃ p < t.count, t.overlaps ((target : Int) - c.minusExtent) ((target : Int) + c.plusExtent) p = true
        let bound : Prop := s.windClass m = .storm ∧ c.exempt = false
        let near : Prop := ((target : Int) - r).natAbs ≤ c.tolerance
        let d : Dir := if r < (target : Int) then .plus else .minus
        (profile = 0 ∨ ¬ fits → answers .refusedRange []) ∧
        (1 ≤ profile → fits → bound → answers .refusedWind []) ∧
        (1 ≤ profile → fits → ¬ bound → s.inputs.chainOpen = true → answers .refusedEstop []) ∧
        (1 ≤ profile → fits → ¬ bound → s.inputs.chainOpen = false → near → answers .done []) ∧
        (1 ≤ profile → fits → ¬ bound → s.inputs.chainOpen = false → ¬ near →
          ((s.mover m).state = .stopping ∨ (s.mover m).state = .faulted → answers .refusedState []) ∧
          ((s.mover m).state = .queued ∨ (s.mover m).state = .starting ∨ (s.mover m).state = .moving →
            (d ≠ (s.mover m).dir → answers .refusedDirection []) ∧
            (d = (s.mover m).dir →
              exec (.move mover target profile) s = .next
                { s with
                  movers := tset s.movers m
                    { s.mover m with target := some target, profile := some (min profile c.vMax) }
                  answer := some { code := 0x23#8, status := .ok, items := [u16 (min profile c.vMax)] } })))

/-- R63, R57, R41, R75: STOP by state: a STARTING or MOVING mover enters STOPPING with reason STOP_REQUEST; a QUEUED or HELD one
is PARKED with that reason, a QUEUED one leaving the queue; in every other state nothing changes; the answer gives the state.
STOP_ALL does the same to every mover, and its answer lists those whose state changed. That a mover number above 11 is refused
with an empty body is the model's choice (log entry 13). -/
def Obligations.StopByState : Prop :=
  ∀ s : State, s.resetLow = false →
    let parked := fun m : MoverNo => { (s.mover m).leave with state := .parked, stopReason := some .stopRequest }
    (∀ mover, 11 < mover →
      exec (.stop mover) s = .next { s with answer := some { code := 0x24#8, status := .refusedRange, items := [] } }) ∧
    (∀ m : MoverNo,
      ((s.mover m).state = .starting ∨ (s.mover m).state = .moving →
        exec (.stop m.val) s = .next
          { s.stopped m .stopRequest with answer := some { code := 0x24#8, status := .ok, items := [u8 0x07] } }) ∧
      ((s.mover m).state = .queued ∨ (s.mover m).state = .held →
        exec (.stop m.val) s = .next
          { s with
            movers := tset s.movers m (parked m)
            stations := tmap (fun _ st => if st.serves m = true then
              { st with standing := some .hold, urgent := false } else st) s.stations
            arbiter :=
              if (s.mover m).state = .queued then
                { s.arbiter with queue := s.arbiter.queue.filter fun e => decide (e.mover ≠ m) }
              else s.arbiter
            answer := some { code := 0x24#8, status := .ok, items := [u8 0x02] } }) ∧
      ((s.mover m).state ≠ .starting → (s.mover m).state ≠ .moving → (s.mover m).state ≠ .queued →
        (s.mover m).state ≠ .held →
        exec (.stop m.val) s = .next
          { s with answer := some { code := 0x24#8, status := .ok, items := [u8 (s.mover m).state.code] } })) ∧
    ∃ t, exec .stopAll s = .next t ∧
      (let changed := (List.finRange 12).filter fun m =>
        decide ((s.mover m).state = .starting ∨ (s.mover m).state = .moving ∨ (s.mover m).state = .queued ∨
          (s.mover m).state = .held)
      t =
        { s with
          movers := t.movers, stations := t.stations
          arbiter :=
            { s.arbiter with queue := s.arbiter.queue.filter fun e => decide ((s.mover e.mover).state ≠ .queued) }
          answer := some
            { code := 0x25#8, status := .ok, items := u8 changed.length :: changed.map fun m => u8 m.val } }) ∧
      (∀ m, t.mover m =
        if (s.mover m).state = .starting ∨ (s.mover m).state = .moving then (s.stopped m .stopRequest).mover m
        else if (s.mover m).state = .queued ∨ (s.mover m).state = .held then parked m
        else s.mover m) ∧
      ∀ a, t.station a =
        match (s.station a).assign with
        | none => s.station a
        | some x =>
          if (s.mover x.mover).state = .starting ∨ (s.mover x.mover).state = .moving then
            (s.stopped x.mover .stopRequest).station a
          else if (s.mover x.mover).state = .queued ∨ (s.mover x.mover).state = .held then
            { s.station a with standing := some .hold, urgent := false }
          else s.station a

/-- R43, R48, R55, R56, R58, R59: what the expiry of each timer does when the timer runs and its time is reached: an enrol ends
with TIMEOUT, a start, a permit and a stop timer fault the mover with their codes, a dwell timer stops it for AUTHORITY. The
expiry of a timer that does not run, or whose time is not reached, or in another state, does nothing. That an expiry before its
time, or of a timer that does not run, does nothing is the model's choice (log entry 6). -/
def Obligations.MoverTimers : Prop :=
  ∀ (s : State) (m : MoverNo), s.resetLow = false → s.ArbiterAgrees →
    let due := fun (timer : Option Time) => ∃ e, timer = some e ∧ reached s.now e = true
    ((s.mover m).state = .enrolling → due (s.mover m).enrolTimer →
      ∃ t, exec (.enrolTimerExpiry m) s = .next t.updateAlerts ∧ s.LeavesService t m (some .timeout) ∧ t.tracks = s.tracks ∧
        t.runs = s.runs ∧ t.answer = s.answer) ∧
    ((s.mover m).state = .starting → due (s.mover m).startTimer →
      ∃ t, exec (.startTimerExpiry m) s = .next t.updateAlerts ∧ s.FaultsMover t m .startTimeout ∧
        t.toMovers = s.toMovers) ∧
    ((s.mover m).state = .moving → due (s.mover m).permitTimer →
      ∃ t, exec (.permitTimerExpiry m) s = .next t.updateAlerts ∧ s.FaultsMover t m .permitExpired ∧
        t.toMovers = s.toMovers) ∧
    ((s.mover m).state = .moving → due (s.mover m).dwellTimer →
      exec (.dwellTimerExpiry m) s = .next (s.stopped m .authority).updateAlerts) ∧
    ((s.mover m).state = .stopping → due (s.mover m).stopTimer →
      ∃ t, exec (.stopTimerExpiry m) s = .next t.updateAlerts ∧ s.FaultsMover t m .stopTimeout ∧
        t.toMovers = s.toMovers) ∧
    ((s.mover m).state ≠ .enrolling ∨ ¬ due (s.mover m).enrolTimer → exec (.enrolTimerExpiry m) s = .next s) ∧
    ((s.mover m).state ≠ .starting ∨ ¬ due (s.mover m).startTimer → exec (.startTimerExpiry m) s = .next s) ∧
    ((s.mover m).state ≠ .moving ∨ ¬ due (s.mover m).permitTimer → exec (.permitTimerExpiry m) s = .next s) ∧
    ((s.mover m).state ≠ .moving ∨ ¬ due (s.mover m).dwellTimer → exec (.dwellTimerExpiry m) s = .next s) ∧
    ((s.mover m).state ≠ .stopping ∨ ¬ due (s.mover m).stopTimer → exec (.stopTimerExpiry m) s = .next s)

/-- R65, R66, R76, R109, R150, R171: an intrusion notice faults its mover when that is in service, and does nothing else but be
taken. The opening notice at the Mover Controller empties the start queue, faults every mover in service with ESTOP and ends
every enrol with ESTOP; at the Field Link Master it sets the broadcast flag. That notices wait, are taken one at a time, and
that a command without a waiting one does nothing, is the model's choice (log entry 5). -/
def Obligations.NoticesTaken : Prop :=
  ∀ s : State, s.resetLow = false → s.ArbiterAgrees →
    (∀ m, m ∈ s.toMovers →
      let taken := { s with toMovers := s.toMovers.erase m }
      ((s.mover m).state.inService = true →
        ∃ t, exec (.intrusionNotice m) s = .next t.updateAlerts ∧ taken.FaultsMover t m .intrusion ∧
          t.toMovers = taken.toMovers) ∧
      ((s.mover m).state.inService = false → exec (.intrusionNotice m) s = .next taken.updateAlerts)) ∧
    (∀ m, m ∉ s.toMovers → exec (.intrusionNotice m) s = .next s) ∧
    (s.openingsMovers ≠ 0 →
      ∃ t, exec .openingNoticeMovers s = .next t ∧ t.openingsMovers = s.openingsMovers - 1 ∧ s.AlertsTold t ∧
        t.arbiter = { limit := s.arbiter.limit, count := 0, queue := [] } ∧ t.tracks = s.tracks ∧ t.runs = s.runs ∧
        t.wind = s.wind ∧ t.inputs = s.inputs ∧ t.port = s.port ∧ t.answer = s.answer ∧ t.now = s.now ∧
        t.openingsFieldLink = s.openingsFieldLink ∧ t.pending = s.pending ∧ t.resetLow = false ∧ t.serial = s.serial ∧
        t.link.broadcast = s.link.broadcast ∧ t.link.line = s.link.line ∧
        (s.DropsRequests t fun a => ∃ x ∈ (s.station a).assign, (s.mover x.mover).state = .enrolling) ∧
        (∀ m, t.mover m =
          if (s.mover m).state.inService = true then
            { (s.mover m).leave with state := .faulted, fault := some .estop, stopReason := some (.fault .estop) }
          else if (s.mover m).state = .enrolling then
            { (s.mover m).leave with state := .lockedOut, progress := [], enrol := some .estop }
          else s.mover m) ∧
        ∀ a,
          let mine := fun (p : MState → Prop) => ∃ x ∈ (s.station a).assign, p (s.mover x.mover).state
          (mine (fun st => st.inService = true) →
            t.station a = { s.station a with standing := some .hold, urgent := true } ∧ t.linkOf a = s.linkOf a) ∧
          (mine (· = .enrolling) →
            t.station a = { s.station a with state := .dormant, standing := none, urgent := false } ∧
            t.linkOf a = { s.linkOf a with due := none, retry := none, priority := false }) ∧
          (¬ mine (fun st => st.inService = true ∨ st = .enrolling) →
            t.station a = s.station a ∧ t.linkOf a = s.linkOf a)) ∧
    (s.openingsMovers = 0 → exec .openingNoticeMovers s = .next s) ∧
    (s.openingsFieldLink ≠ 0 →
      exec .openingNoticeFieldLink s = .next
        { s with
          openingsFieldLink := s.openingsFieldLink - 1, link := { s.link with broadcast := true } }) ∧
    (s.openingsFieldLink = 0 → exec .openingNoticeFieldLink s = .next s)

/-! ### Stations and admission -/

/-- R118 to R122, R146: the endings of ASSIGN_STATION and UNASSIGN_STATION in the order of their checks. An accepted one
replaces the assignment, advances the generation by 1 modulo 256, resets the service record and the link state except sequence
bit and priority request, and answers the generation, and for an assignment the poll interval as clamped to 10 to 1,000 ms. That
UNASSIGN_STATION's REFUSED_RANGE has an empty body is the model's choice (log entry 13), and so is the empty body of its OK for a
station that is not assigned (log entry 11). -/
def Obligations.AssignAndUnassign : Prop :=
  ∀ (s : State) (address mover role : Nat) (offset : Int) (poll busyExp : Nat), s.resetLow = false →
    let assigns (status : Status) (items : List Item) : Prop :=
      exec (.assignStation address mover role offset poll busyExp) s =
        .next { s with answer := some { code := 0x30#8, status := status, items := items } }
    let unassigns (status : Status) (items : List Item) : Prop :=
      exec (.unassignStation address) s =
        .next { s with answer := some { code := 0x31#8, status := status, items := items } }
    let changed := fun (a : StationNo) (x : Option Assignment) (code : Byte) (items : List Item) =>
      State.updateAlerts
        { s with
          stations := tset s.stations a
            { s.station a with
              assign := x, generation := (s.station a).generation + 1#8, capability := none, report := none, trim := 0
              state := .dormant, standing := none, urgent := false }
          link :=
            { s.link with
              links := tset s.link.links a
                { s.linkOf a with attempts := 0, busy := 0, retry := none, due := none } }
          answer := some
            { code := code, status := .ok
              items := items ++ [u8 ((s.station a).generation + 1#8).toNat] } }
    (address = 0 ∨ 32 < address → assigns .refusedRange [u8 1] ∧ unassigns .refusedRange []) ∧
    ∀ a : StationNo, a.val + 1 = address →
      (11 < mover → assigns .refusedRange [u8 2]) ∧
      (mover ≤ 11 → role = 0 ∨ 3 < role → assigns .refusedRange [u8 3]) ∧
      (mover ≤ 11 → 1 ≤ role → role ≤ 3 → offset < -200000 ∨ 200000 < offset → assigns .refusedRange [u8 4]) ∧
      (mover ≤ 11 → 1 ≤ role → role ≤ 3 → -200000 ≤ offset → offset ≤ 200000 → 16 < busyExp →
        assigns .refusedRange [u8 6]) ∧
      (∀ x, (s.station a).assign = some x → (s.mover x.mover).state ≠ .lockedOut →
        unassigns .refusedState [u8 x.mover.val, u8 (s.mover x.mover).state.code]) ∧
      ((s.station a).assign = none → unassigns .ok []) ∧
      (∀ x, (s.station a).assign = some x → (s.mover x.mover).state = .lockedOut →
        exec (.unassignStation address) s = .next (changed a none 0x31#8 [])) ∧
      ∀ (m : MoverNo) (r : Role), m.val = mover → r.code = role → -200000 ≤ offset → offset ≤ 200000 → busyExp ≤ 16 →
        let rival := fun b => b ≠ a ∧ ∃ x ∈ (s.station b).assign, x.mover = m ∧ x.role = .lead
        ((s.mover m).state ≠ .lockedOut → assigns .refusedState [u8 m.val, u8 (s.mover m).state.code]) ∧
        ((s.mover m).state = .lockedOut →
          (∀ x, (s.station a).assign = some x → (s.mover x.mover).state ≠ .lockedOut →
            assigns .refusedState [u8 x.mover.val, u8 (s.mover x.mover).state.code]) ∧
          ((∀ x ∈ (s.station a).assign, (s.mover x.mover).state = .lockedOut) →
            (r = .lead → ∀ b, rival b → (∀ b', b' < b → ¬ rival b') → assigns .refusedConfig [u8 (b.val + 1)]) ∧
            ((r = .lead → ∀ b, ¬ rival b) →
              ((s.station a).serves m = false → 8 ≤ (s.stationsOf m).length →
                assigns .refusedConfig [u8 (s.stationsOf m).length]) ∧
              ((s.station a).serves m = true ∨ (s.stationsOf m).length < 8 →
                exec (.assignStation address mover role offset poll busyExp) s = .next
                  (changed a
                    (some { mover := m, role := r, offset := offset, poll := min 1000 (max 10 poll), busyExp := busyExp })
                    0x30#8 [u16 (min 1000 (max 10 poll))])))))

/-- R78, R74, R69: SET_ADMISSION clamps to 1 to 12; a value below the count is refused, the present limit is answered OK, and
any other is stored, a raised one admitting from the head of the queue as many as fit, each into STARTING, and answering their
numbers. That the present limit is answered with an empty body is the model's choice (log entry 11). -/
def Obligations.SetAdmission : Prop :=
  ∀ (s : State) (limit : Nat), s.resetLow = false → s.ArbiterAgrees →
    let v := min 12 (max 1 limit)
    (v < s.arbiter.count →
      exec (.setAdmission limit) s = .next
        { s with
          answer := some { code := 0x40#8, status := .inUse, items := [u8 s.arbiter.count, u8 s.arbiter.limit] } }) ∧
    (v = s.arbiter.limit →
      exec (.setAdmission limit) s = .next { s with answer := some { code := 0x40#8, status := .ok, items := [] } }) ∧
    (s.arbiter.count ≤ v → v ≠ s.arbiter.limit →
      let entered := (s.arbiter.queue.take (v - s.arbiter.count)).map (·.mover)
      exec (.setAdmission limit) s = .next (State.updateAlerts
        { s with
          movers := tmap (fun m x => if m ∈ entered then
            { x.leave with state := .starting, progress := [], startTimer := some (s.now + 3000#32) } else x) s.movers
          stations := tmap (fun _ st => if ∃ m ∈ entered, st.serves m = true then
            { st with standing := some (.drive 0 true), urgent := false, trim := 0 } else st) s.stations
          arbiter :=
            { limit := v, count := s.arbiter.count + entered.length
              queue := s.arbiter.queue.drop (v - s.arbiter.count) }
          answer := some
            { code := 0x40#8, status := .ok
              items := [u8 v, u8 entered.length] ++ entered.map fun m => u8 m.val } }))

/-! ### Proving -/

/-- R115: SET_PROVING clamps and stores the interval and the stale limit, restarts the proving timer, leaves cursor, pending
step and last-completed time as they were, answers both values as stored, and is never refused; an expiry of the restarted timer
that finds the step pending is ignored. -/
def Obligations.ProvingSettings : Prop :=
  ∀ (s : State) (interval stale : Nat), s.resetLow = false → interval ≤ 65535 → stale ≤ 65535 →
    let i := min 1000 (max 5 interval)
    let l := min 5000 (max 100 stale)
    ∃ t, exec (.setProving interval stale) s = .next t ∧
      t = { s with
        proving := { s.proving with interval := i, stale := l, expiry := s.now + BitVec.ofNat 32 i }
        answer := some { code := 0x50#8, status := .ok, items := [u16 i, u16 l] } } ∧
      ∀ (later : Time) (q : PendingStep), s.proving.step = some q → reached later t.proving.expiry = true →
        exec .provingTimerExpiry { t with now := later } = .next
          { t with now := later, proving := { t.proving with expiry := later + BitVec.ofNat 32 i } }

/-- R180: IDENTIFY is answered OK in every state, with the part code CV4210 and the revision A in ASCII and the part's
capacities, and changes no record. -/
def Obligations.IdentifyAnswer : Prop :=
  ∀ s : State, s.resetLow = false →
    exec .identify s = .next
      { s with
        answer := some
          { code := 0x7F#8, status := .ok
            items := ("CV4210A".toList.map fun c => u8 c.toNat) ++
              [u8 4, u8 128, u8 12, u8 32, u8 8, u8 12, u8 3, u8 8, u8 2, u8 250] } }

/-- R107 to R110: who occupies a segment, and what its evaluation sends: with no stranger on it a Consistent finding, and a
trailing release request when the segment is the rear of a MOVING or STOPPING holder that does not occupy it; otherwise an
Inconsistent finding and an intrusion notice to the holder and to every occupier. That a run of one segment, rear and front at
once, is asked for too is the model's choice (log entry 28). -/
def Obligations.SegmentEvaluation : Prop :=
  ∀ (s : State) (k : TrackNo) (t : Track) (p : Nat) (g : Seg),
    (∀ m, s.occupies m k t p = true ↔
      (s.mover m).state.holding = true ∧ s.onTrack m k ∧
        ((∃ c r, (s.mover m).config = some c ∧ (s.mover m).reference = some r ∧
            r - c.minusExtent < (t.segStart (p + 1) : Int) ∧ (t.segStart p : Int) ≤ r + c.plusExtent) ∨
          ∃ a r x, (s.station a).serves m = true ∧ (s.station a).report = some r ∧ r.position = some x ∧
            t.segStart p ≤ x ∧ x < t.segStart (p + 1))) ∧
    let stranger := fun m => s.occupies m k t p = true ∧ g.holder ≠ some m
    let trails := fun h => g.holder = some h ∧ s.occupies h k t p = false ∧
      ((s.mover h).state = .moving ∨ (s.mover h).state = .stopping) ∧
      ∃ r, s.run h = some r ∧ p = (match (s.mover h).dir with | .plus => r.low | .minus => r.high)
    ((∀ m, ¬ stranger m) →
      (∀ h, trails h →
        s.evaluate k t p g =
          { s with
            toReservation := s.toReservation ++ [.consistent (t.base + p) t.serial s.now, .trailing (t.base + p) h] }) ∧
      ((∀ h, ¬ trails h) →
        s.evaluate k t p g =
          { s with toReservation := s.toReservation ++ [.consistent (t.base + p) t.serial s.now] })) ∧
    ∀ m, stranger m →
      s.evaluate k t p g =
        { s with
          toReservation := s.toReservation ++ [.inconsistent (t.base + p) t.serial]
          toMovers := s.toMovers ++
            (List.finRange 12).filter fun n => decide (g.holder = some n) || s.occupies n k t p }

/-- R101, R103 to R106, R111: the proving timer's expiry restarts the timer; with a step pending it does nothing else. With none
it visits the index under the cursor: an unallocated one completes; an allocated one is evaluated and completes when no holder
of it or of a neighbour is stale; otherwise the step pends on the LEAD station of the stalest of them, with a priority request.
The notice that the awaited transaction has ended completes the step, with an evaluation only of the record it began on. That an
expiry before its time does nothing is the model's choice (log entry 6). -/
def Obligations.ProvingExpiry : Prop :=
  ∀ s : State, s.resetLow = false →
    let restarted := { s with proving := { s.proving with expiry := s.now + BitVec.ofNat 32 s.proving.interval } }
    let completed := fun (u : State) =>
      { u with
        proving := { u.proving with step := none, last := some s.now, cursor := (s.proving.cursor + 37) % 128 } }
    (reached s.now s.proving.expiry = false → exec .provingTimerExpiry s = .next s) ∧
    (reached s.now s.proving.expiry = true →
      (s.proving.step ≠ none → exec .provingTimerExpiry s = .next restarted) ∧
      (s.proving.step = none →
        (s.locate s.proving.cursor = none → exec .provingTimerExpiry s = .next (completed restarted)) ∧
        ∀ k t p g, s.locate s.proving.cursor = some (k, t, p) → t.segs[p]? = some g →
          let stale := fun m => (∃ q, (q = p ∨ q + 1 = p ∨ q = p + 1) ∧ ∃ h ∈ t.segs[q]?, h.holder = some m) ∧
            ∃ tl, (s.mover m).leadTime = some tl ∧ s.proving.stale < (s.now - tl).toNat
          let age := fun m => ((s.mover m).leadTime.map fun tl => (s.now - tl).toNat).getD 0
          ((∀ m, ¬ stale m) → exec .provingTimerExpiry s = .next (completed (restarted.evaluate k t p g))) ∧
          ∀ m a, stale m → (∀ n, stale n → age n < age m ∨ (age n = age m ∧ m ≤ n)) → s.leadOf m = some a →
            exec .provingTimerExpiry s = .next
              { restarted with
                proving :=
                  { restarted.proving with
                    step := some { index := s.proving.cursor, serial := t.serial, awaited := a, since := s.now } }
                link :=
                  { s.link with
                    links := tset s.link.links a { s.linkOf a with priority := true } } })) ∧
    ∀ q, s.proving.step = some q →
      (∀ a, a ≠ q.awaited → s.noticeEnded a = s) ∧
      (∀ k t p g, s.locate q.index = some (k, t, p) → t.serial = q.serial → t.segs[p]? = some g →
        s.noticeEnded q.awaited = completed (s.evaluate k t p g)) ∧
      (s.locate q.index = none ∨ (∃ k t p, s.locate q.index = some (k, t, p) ∧ t.serial ≠ q.serial) →
        s.noticeEnded q.awaited = completed s)

/-! ### The field link -/

/-- R134 to R136, R138, R148 to R150: a transaction starts on an idle line with no broadcast waiting, for the station of the
highest rank: a priority request; an urgent HOLD of an ACTIVE station, lowest address first; a reached due time, earliest first.
It carries the pending retry, or the command of the station's state, and its frame's bytes go on the line. The ends of frames
and the broadcast HOLD move the line. The driver is enabled exactly while the part sends a frame, from the start of a transaction or
of a broadcast HOLD to that frame's end or a full reset (section 11.8). Where the line, the flag or the waiting requests do not
allow an event, nothing happens. The model's choices: a start comes when commanded, and does nothing where line, flag or requests do not allow it (log entry 27),
the ends of frames are what the commands say, without effect where no such frame is on the line (log entry 8), and the driver enable
is a function of the state, `State.driverEnable` (log entry 10). -/
def Obligations.TransactionStarts : Prop :=
  (∀ s : State, s.driverEnable = true ↔ ∃ bytes, s.link.line = .command bytes ∨ s.link.line = .broadcast bytes) ∧
  (∀ (c : Instr) (s t : State), exec c s = .next t →
    (s.driverEnable = false → t.driverEnable = true → c = .transactionStart ∨ c = .broadcastHoldStart) ∧
    (s.driverEnable = true → t.driverEnable = false → c = .commandFrameEnd ∨ c = .broadcastHoldEnd ∨ c = .fullReset)) ∧
  (∀ s t : State, exec .fullReset s = .next t → t.driverEnable = false) ∧
  ∀ s : State, s.resetLow = false →
    let serviced := fun a => (s.station a).state ≠ .dormant
    let second := fun a => serviced a ∧ (s.linkOf a).priority = true
    let third := fun a => (s.station a).state = .active ∧ (s.station a).standing = some .hold ∧ (s.station a).urgent = true
    let waits := fun a d => serviced a ∧ ∃ e, (s.linkOf a).due = some e ∧ reached s.now e = true ∧ d = (s.now - e).toNat
    let chosen := fun a =>
      (second a ∧ ∀ b, b < a → ¬ second b) ∨
      ((∀ b, ¬ second b) ∧ third a ∧ ∀ b, b < a → ¬ third b) ∨
      ((∀ b, ¬ second b) ∧ (∀ b, ¬ third b) ∧
        ∃ d, waits a d ∧ ∀ b d', waits b d' → d' < d ∨ (d' = d ∧ a ≤ b))
    let carries := fun a (c : Command) (seq : Bool) =>
      (s.linkOf a).retry = some (c, seq) ∨
      ((s.linkOf a).retry = none ∧ seq = (s.linkOf a).seq ∧
        (((s.station a).state = .lost ∧ c = .ident) ∨ ((s.station a).state = .busyHalted ∧ c = .sample) ∨
          ((s.station a).state = .active ∧ (s.station a).standing = some c)))
    let fields := fun (a : StationNo) (c : Command) (seq : Bool) =>
      let kind := match c with | .sample => 1 | .drive _ _ => 2 | .hold => 3 | .ident => 4
      [BitVec.ofNat 8 (a.val + 1), BitVec.ofNat 8 (kind + if seq = true then 128 else 0)] ++
        toBytes 2 (match c with | .drive v _ => v | _ => 0) ++
        [match c with | .drive _ true => 1#8 | _ => 0#8]
    (s.link.line = .idle → s.link.broadcast = false → ∀ a c seq, chosen a → carries a c seq →
      exec .transactionStart s = .next
        { s with
          stations := tset s.stations a
            { s.station a with
              lastSent := some (c, s.now), urgent := if c = .hold then false else (s.station a).urgent }
          link :=
            { s.link with
              links := tset s.link.links a { s.linkOf a with priority := false }
              inFlight := some
                { station := a, command := c, seq := seq, generation := (s.station a).generation
                  priority := (s.linkOf a).priority }
              line := .command (fields a c seq ++ crcBytes (fields a c seq)) } }) ∧
    (s.link.line ≠ .idle ∨ s.link.broadcast = true ∨ (∀ a, ¬ chosen a) → exec .transactionStart s = .next s) ∧
    (∀ bytes, s.link.line = .command bytes →
      exec .commandFrameEnd s = .next { s with link := { s.link with line := .window } }) ∧
    ((∀ bytes, s.link.line ≠ .command bytes) → exec .commandFrameEnd s = .next s) ∧
    (s.link.line = .idle → s.link.broadcast = true →
      exec .broadcastHoldStart s = .next
        { s with
          link :=
            { s.link with
              broadcast := false
              line := .broadcast ([0#8, 3#8, 0#8, 0#8, 0#8] ++ crcBytes [0#8, 3#8, 0#8, 0#8, 0#8]) } }) ∧
    (s.link.line ≠ .idle ∨ s.link.broadcast = false → exec .broadcastHoldStart s = .next s) ∧
    (∀ bytes, s.link.line = .broadcast bytes →
      exec .broadcastHoldEnd s = .next { s with link := { s.link with line := .idle } }) ∧
    ((∀ bytes, s.link.line ≠ .broadcast bytes) → exec .broadcastHoldEnd s = .next s)

/-- R135, R140, R142, R143, R145, R124, R65: a closed window and a break in an answer are failed attempts. Below the third the
command is kept as the retry, due at once; at the third the station is LOST, its poll due 1,000 ms on, and its mover faulted
with STATION_LOST, or its enrol ended with STATION. The ending of a transaction that no longer matches its station is discarded,
and without a transaction in its window nothing happens. The model's choices: an ending given with no transaction in its window
changes nothing (log entry 8), and the match test is R128's two conditions (log entry 29). -/
def Obligations.FailedAttempts : Prop :=
  ∀ s : State, s.resetLow = false →
    let both := fun t => exec .answerWindowClosed s = .next t ∧ exec .answerBreak s = .next t
    let ended : Transaction → Link → FieldLink := fun t l =>
      { s.link with inFlight := none, line := .idle, links := tset s.link.links t.station l }
    (∀ t, s.awaits t →
      let l := s.linkOf t.station
      let struck :=
        { s with
          stations := tset s.stations t.station { s.station t.station with state := .lost }
          link := ended t { l with attempts := 3, retry := none, due := some (s.now + 1000#32) } }
      (l.attempts < 2 →
        both (State.closing
          { s with
            link := ended t
              { l with
                attempts := l.attempts + 1, due := some s.now
                retry := match l.retry with | some r => some r | none => some (t.command, t.seq) } } t)) ∧
      (2 ≤ l.attempts →
        ((s.station t.station).state = .lost → both (struck.closing t)) ∧
        (∀ x, (s.station t.station).assign = some x →
          ((s.mover x.mover).state = .faulted → both (struck.closing t)) ∧
          ((s.station t.station).state ≠ .lost → (s.mover x.mover).state.inService = true → s.ArbiterAgrees →
            ∃ v, struck.FaultsMover v x.mover .stationLost ∧ v.toMovers = s.toMovers ∧ both (v.closing t)) ∧
          ((s.station t.station).state ≠ .lost → (s.mover x.mover).state = .enrolling →
            ∃ v, struck.LeavesService v x.mover (some .station) ∧ v.tracks = s.tracks ∧ v.runs = s.runs ∧
              v.answer = s.answer ∧ both (v.closing t))))) ∧
    (∀ t bytes, s.link.line = .window → s.link.inFlight = some t →
      (s.station t.station).generation ≠ t.generation ∨ (s.station t.station).state = .dormant →
        let idle := State.updateAlerts { s with link := { s.link with inFlight := none, line := .idle } }
        both idle ∧ exec (.fieldAnswerReceived bytes) s = .next idle) ∧
    (∀ bytes, s.link.line ≠ .window ∨ s.link.inFlight = none →
      both s ∧ exec (.fieldAnswerReceived bytes) s = .next s)

/-- R135, R140, R141, R144, R145, R125, R126, R129: an answer is judged by its bytes. A corrupt or foreign one is a failed
attempt, and so is a REPORT with the wrong sequence bit, with the busy count cleared. A BUSY clears the attempts, raises the
busy count as far as 65,535 and puts the next poll off, at the busy limit with a busy halt. A matching REPORT flips the bit,
clears both counts and the retry and is filed; the next poll is due by the station's state. That a LOST or BUSY_HALTED station
keeps a known capability against another one reported is the model's choice (log entry 20). -/
def Obligations.AnswersJudged : Prop :=
  ∀ (s : State) (t : Transaction) (bytes : List Byte), s.resetLow = false → s.awaits t →
    let a := t.station
    let l := s.linkOf a
    let answer := readAnswer s.now (a.val + 1) t.command bytes
    let linked := fun (u : State) (l' : Link) =>
      { u with link := { s.link with inFlight := none, line := .idle, links := tset s.link.links a l' } }
    let later := some (s.now + 1000#32)
    let raised := min 65535 (l.busy + 1)
    (answer = .failed → exec (.fieldAnswerReceived bytes) s = exec .answerWindowClosed s) ∧
    (∀ seq r, answer = .report seq r → seq ≠ t.seq →
      exec (.fieldAnswerReceived bytes) s =
        exec .answerWindowClosed { s with link := { s.link with links := tset s.link.links a { l with busy := 0 } } }) ∧
    (∀ x, answer = .busy → (s.station a).assign = some x →
      let reachedLimit : Prop := 2 ≤ x.busyExp ∧ 2 ^ (x.busyExp - 1) ≤ raised
      (¬ reachedLimit →
        exec (.fieldAnswerReceived bytes) s = .next (State.closing (linked s
          { l with
            attempts := 0, busy := raised
            due := if (s.station a).state = .active then some (s.now + BitVec.ofNat 32 x.poll) else later }) t)) ∧
      (reachedLimit →
        let halted := linked
          { s with
            stations := tset s.stations a
              { s.station a with state := if (s.station a).state = .active then .busyHalted else (s.station a).state } }
          { l with attempts := 0, busy := raised, retry := none, due := later }
        ((s.station a).state ≠ .active ∨ (s.mover x.mover).state = .faulted →
          exec (.fieldAnswerReceived bytes) s = .next (halted.closing t)) ∧
        ((s.station a).state = .active → (s.mover x.mover).state.inService = true → s.ArbiterAgrees →
          ∃ v, halted.FaultsMover v x.mover .busyTimeout ∧ v.toMovers = s.toMovers ∧
            exec (.fieldAnswerReceived bytes) s = .next (v.closing t)) ∧
        ((s.station a).state = .active → (s.mover x.mover).state = .enrolling →
          ∃ v, halted.LeavesService v x.mover (some .station) ∧ v.tracks = s.tracks ∧ v.runs = s.runs ∧
            v.answer = s.answer ∧ exec (.fieldAnswerReceived bytes) s = .next (v.closing t)))) ∧
    ∀ r, answer = .report t.seq r →
      ∃ u, exec (.fieldAnswerReceived bytes) s = .next u ∧ (u.station a).report = some r ∧
        (u.station a).assign = (s.station a).assign ∧ (u.station a).generation = (s.station a).generation ∧
        (u.station a).lastSent = (s.station a).lastSent ∧ u.link.line = .idle ∧ u.link.inFlight = none ∧
        (u.linkOf a).seq = !l.seq ∧ (u.linkOf a).attempts = 0 ∧ (u.linkOf a).busy = 0 ∧ (u.linkOf a).retry = none ∧
        (u.linkOf a).due =
          (match (u.station a).state with
            | .dormant => none
            | .active => some (s.now + BitVec.ofNat 32 (((s.station a).assign.map (·.poll)).getD 0))
            | _ => later) ∧
        ∀ x, (s.station a).assign = some x → (s.mover x.mover).state = .faulted →
          let known := (s.station a).capability
          let sound : Prop := r.faultCode = 0 ∧ r.position ≠ none ∧ ∀ c ∈ r.capability, ∀ k ∈ known, c = k
          ∃ state,
            ((s.station a).state = .active ∨ sound → state = .active) ∧
            ((s.station a).state ≠ .active → ¬ sound → state = (s.station a).state) ∧
            u = State.closing
              { s with
                movers := match r.position with
                  | some p => if x.role = .lead then
                      tset s.movers x.mover
                        { s.mover x.mover with reference := some ((p : Int) - x.offset), leadTime := some s.now }
                    else s.movers
                  | none => s.movers
                stations := tset s.stations a
                  { s.station a with
                    report := some r, state := state
                    capability := match r.capability with
                      | some c => if (s.station a).state = .active then some c else some (known.getD c)
                      | none => known }
                link :=
                  { s.link with
                    inFlight := none, line := .idle
                    links := tset s.link.links a
                      { l with
                        seq := !l.seq, attempts := 0, busy := 0, retry := none
                        due := if state = .active then some (s.now + BitVec.ofNat 32 x.poll) else later } } } t

/-! ### Reports -/

/-- R53, R82 to R89, R40, R55, R56, R57: a sound lead report of a MOVING mover sets the reference position and evaluates the law
on it. An overrun faults the mover. An arrival at zero-band speed begins the stop with ARRIVED. Otherwise the output is written
to the mover and its stations, the permit timer restarted, and the dwell timer started, kept running or stopped by the dwell
test. -/
def Obligations.LeadReportInMoving : Prop :=
  ∀ (s : State) (t : Transaction) (bytes : List Byte) (r : Report) (x : Assignment) (c : MoverConfig) (k : TrackNo)
    (d : Track) (run : Run) (p target profile : Nat),
    s.resetLow = false → s.reports t bytes r → r.faultCode = 0 → r.position = some p →
    (s.station t.station).assign = some x → x.role = .lead → (s.mover x.mover).state = .moving →
    (s.mover x.mover).config = some c → s.moverTrack x.mover = some (k, d) → s.run x.mover = some run →
    (s.mover x.mover).target = some target → (s.mover x.mover).profile = some profile →
    s.leadOf x.mover = some t.station →
    let m := x.mover
    let y := s.mover m
    let filed := (s.filed t r).referenced m p x.offset
    let law := speedLaw
      { config := c, dir := y.dir, reference := (p : Int) - x.offset, target := target, profile := profile
        authority := (match y.dir with | .plus => d.segStart (run.high + 1) | .minus => d.segStart run.low : Nat)
        prevSpeed := y.prevSpeed, prevTime := y.prevTime, now := s.now, cls := s.windClass m }
    let read (v : State) : Prop := exec (.fieldAnswerReceived bytes) s = .next (v.closing t)
    (law = .overrun → s.ArbiterAgrees →
      ∃ v, filed.FaultsMover v m .overrun ∧ v.toMovers = s.toMovers ∧ read v) ∧
    ∀ v arrived dAuth dTgt, law = .output v arrived dAuth dTgt →
      (arrived = true → r.speed.natAbs ≤ 2 →
        read (filed.stopped m .arrived)) ∧
      (arrived = false ∨ 2 < r.speed.natAbs →
        let out := filed.driven m c v
        read
          { out with
            movers := tset out.movers m
              { out.mover m with
                permitTimer := some (s.now + BitVec.ofNat 32 c.permit)
                dwellTimer :=
                  if dAuth = 0 ∧ c.tolerance < dTgt ∧ r.speed.natAbs ≤ 2 then
                    some (y.dwellTimer.getD (s.now + BitVec.ofNat 32 (c.dwell * 1000)))
                  else none } })

/-- R52, R54, R57, R59, R65, R40, R42, R91: what a report of an ACTIVE station does in the states of a mover out of LOCKED_OUT
and ENROLLING, the lead's in MOVING and HELD and a follower's in MOVING apart. A fault code or an unknown position faults a
mover in service with STATION_FAULT. In STARTING a RELEASED state joins the progress set, and the report that completes it
evaluates the law and begins MOVING. In RUNDOWN a lead report at zero-band speed begins BRAKING; in BRAKING an APPLIED state
joins the progress set, and the report that completes it ends the stop in PARKED, or in HELD for AUTHORITY. A follower's report
is then judged for skew, on the records as that progress leaves them: the order, and that a stop which has ended in this report
still counts, are the model's choice (log entry 9). In PARKED, QUEUED and FAULTED, for a BRAKE station in MOVING and for a
FOLLOW or BRAKE station in HELD nothing but the filing and, for a lead, the reference position happens. -/
def Obligations.ProgressReports : Prop :=
  ∀ (s : State) (t : Transaction) (bytes : List Byte) (r : Report) (x : Assignment) (c : MoverConfig),
    s.resetLow = false → s.reports t bytes r → (s.station t.station).assign = some x → s.ArbiterAgrees →
    (s.mover x.mover).config = some c →
    let m := x.mover
    let y := s.mover m
    let read (v : State) : Prop := exec (.fieldAnswerReceived bytes) s = .next (v.closing t)
    let entered := match r.position with
      | some p => if x.role = .lead then (s.filed t r).referenced m p x.offset else s.filed t r
      | none => s.filed t r
    (y.state = .faulted → read entered) ∧
    (y.state.inService = true → r.faultCode ≠ 0 ∨ r.position = none →
      ∃ v, entered.FaultsMover v m .stationFault ∧ v.toMovers = s.toMovers ∧ read v) ∧
    ∀ p, r.faultCode = 0 → r.position = some p →
      let filed := if x.role = .lead then (s.filed t r).referenced m p x.offset else s.filed t r
      let joined :=
        { filed with
          movers := tset filed.movers m { filed.mover m with progress := insertStation t.station y.progress } }
      let complete := ∀ a, (s.station a).serves m = true → a = t.station ∨ a ∈ y.progress
      let settles (u : State) : Prop :=
        (x.role = .follow → ∃ v, u.SkewJudged v m t.station c p x.offset ∧ read v) ∧ (x.role ≠ .follow → read u)
      (y.state = .parked ∨ y.state = .queued → read filed) ∧
      (y.state = .moving → x.role = .brake → read filed) ∧
      (y.state = .held → x.role ≠ .lead → read filed) ∧
      (y.state = .starting →
        (r.brake ≠ .released → settles filed) ∧
        (r.brake = .released → ¬ complete → settles joined) ∧
        (r.brake = .released → complete → ∀ i, filed.lawInput m = some i →
          (speedLaw i = .overrun → ∃ v, joined.FaultsMover v m .overrun ∧ v.toMovers = s.toMovers ∧ read v) ∧
          ∀ speed arrived dAuth dTgt, speedLaw i = .output speed arrived dAuth dTgt →
            let out := joined.driven m c speed
            settles
              { out with
                movers := tset out.movers m
                  { (out.mover m).leave with
                    state := .moving, velocity := y.dir.sign * speed, prevSpeed := speed, prevTime := some s.now
                    permitTimer := some (s.now + BitVec.ofNat 32 c.permit) } })) ∧
      (y.state = .stopping →
        (x.role = .lead → (∃ e, filed.authorityEnd m = some e ∧
            rawAuthority c y.dir ((p : Int) - x.offset) e < 0) →
          ∃ v, filed.FaultsMover v m .overrun ∧ v.toMovers = s.toMovers ∧ read v) ∧
        (x.role ≠ .lead ∨ (∀ e, filed.authorityEnd m = some e → 0 ≤ rawAuthority c y.dir ((p : Int) - x.offset) e) →
          (y.phase = some .rundown → x.role = .lead → r.speed.natAbs ≤ 2 →
            read
              { filed with
                movers := tset filed.movers m { filed.mover m with phase := some .braking, progress := [] }
                stations := tmap (fun _ st => if st.serves m = true then
                  { st with standing := some .hold, urgent := true } else st) filed.stations }) ∧
          (y.phase = some .rundown → x.role ≠ .lead ∨ 2 < r.speed.natAbs → settles filed) ∧
          (y.phase = some .braking → r.brake ≠ .applied → settles filed) ∧
          (y.phase = some .braking → r.brake = .applied → ¬ complete → settles joined) ∧
          (y.phase = some .braking → r.brake = .applied → complete →
            ∃ u, joined.Rests u m
                { (joined.mover m).leave with
                  state := if y.stopReason = some .authority then .held else .parked } ∧
              settles u)))

/-- R51, R72, R91 to R96: a lead report of a HELD mover that passes the resume test asks for admission, and one that fails it
does no more than set the reference position. A report of a FOLLOW station of a MOVING mover is judged for skew while the lead
evidence is there and not stale: beyond the skew limit the mover is faulted with SKEW, and otherwise the trim and the trimmed
speed are written. That the judgement comes last in the report is the model's choice (log entry 9). -/
def Obligations.ResumeAndSkewReports : Prop :=
  ∀ (s : State) (t : Transaction) (bytes : List Byte) (r : Report) (x : Assignment) (c : MoverConfig) (p : Nat),
    s.resetLow = false → s.reports t bytes r → (s.station t.station).assign = some x → s.ArbiterAgrees →
    (s.mover x.mover).config = some c → r.faultCode = 0 → r.position = some p →
    let m := x.mover
    let y := s.mover m
    let read (v : State) : Prop := exec (.fieldAnswerReceived bytes) s = .next (v.closing t)
    (y.state = .held → x.role = .lead → ∀ target e,
      y.target = some target → s.authorityEnd m = some e →
      let reference := (p : Int) - x.offset
      let filed := (s.filed t r).referenced m p x.offset
      let passes : Prop := c.resume ≤ (rawAuthority c y.dir reference e - c.standoff).toNat ∧
        c.tolerance < ((target : Int) - reference).natAbs ∧ (s.windClass m = .storm → c.exempt = true)
      let standing := fun (cmd : Command) (reset : Bool) =>
        tmap (fun _ st => if st.serves m = true then
          { st with standing := some cmd, urgent := false, trim := if reset = true then 0 else st.trim } else st)
          filed.stations
      (¬ passes → read filed) ∧
      (passes → s.arbiter.count < s.arbiter.limit →
        read
          { filed with
            movers := tset filed.movers m
              { (filed.mover m).leave with
                state := .starting, progress := [], startTimer := some (s.now + 3000#32) }
            stations := standing (.drive 0 true) true
            arbiter := { s.arbiter with count := s.arbiter.count + 1 } }) ∧
      (passes → s.arbiter.count = s.arbiter.limit →
        read
          { filed with
            movers := tset filed.movers m { (filed.mover m).leave with state := .queued }
            stations := standing .hold false
            arbiter := { s.arbiter with queue := s.arbiter.queue ++ [{ mover := m, since := s.now }] } })) ∧
    (y.state = .moving → x.role = .follow →
      let filed := s.filed t r
      (y.reference = none ∨ y.leadTime = none ∨ (∀ la, s.leadOf m = some la → (s.station la).report = none) → read filed) ∧
      ∀ rl tl la lead,
        y.reference = some rl → y.leadTime = some tl → s.leadOf m = some la → (s.station la).report = some lead →
        let dt := (s.now - tl).toNat
        let skew := (p : Int) - x.offset - (rl + (lead.speed * dt).tdiv 1000)
        let trim := max (-(c.trimLimit : Int)) (min c.trimLimit ((skew * c.gain).tdiv 16))
        (s.proving.stale < dt → read filed) ∧
        (dt ≤ s.proving.stale → c.skewLimit < skew.natAbs →
          ∃ v, filed.FaultsMover v m .skew ∧ v.toMovers = s.toMovers ∧ read v) ∧
        (dt ≤ s.proving.stale → skew.natAbs ≤ c.skewLimit →
          read
            { filed with
              stations := tset filed.stations t.station
                { filed.station t.station with
                  trim := trim, urgent := false
                  standing := some (.drive (trimmedSpeed y.velocity trim y.dir c.vMax) true) } }))

/-- R46 to R48, R28, R38, R127: what the reports of a mover's ACTIVE stations do in ENROLLING. A fault code ends the enrol with
STATION, an unknown position with POSITION, in answer to any command, and a sound lead report sets the reference position. An
answer to IDENT also files the capability, puts SAMPLE in its place and joins the progress set; the one that completes the set
ends the enrol with CAPABILITY for a lead or follower without DRIVE_BRAKE, with BRAKE_STATE for a brake not applied, with
POSITION for an undefined track or a footprint that does not lie on the track, with FOOTPRINT and the lowest index for a segment that is not takeable,
and otherwise with OK: the mover PARKED, its footprint taken as its run, HOLD standing. The model's choices: a lead report that
ends the enrol leaves the reference position unwritten (log entry 17), and the progress set is empty in PARKED (log entry 19).
-/
def Obligations.EnrolEnds : Prop :=
  ∀ (s : State) (t : Transaction) (bytes : List Byte) (r : Report) (x : Assignment),
    s.resetLow = false → s.awaits t → (s.station t.station).state = .active →
    readAnswer s.now (t.station.val + 1) t.command bytes = .report t.seq r →
    (s.station t.station).assign = some x → (s.mover x.mover).state = .enrolling →
    let m := x.mover
    let read (v : State) : Prop := exec (.fieldAnswerReceived bytes) s = .next (v.closing t)
    let filed :=
      if t.command = .ident then
        { s.filed t r with
          stations := tset s.stations t.station
            { s.station t.station with
              report := some r, capability := r.capability, standing := some .sample, urgent := false } }
      else s.filed t r
    let ends := fun (base : State) (e : EnrolResult) =>
      ∃ v, base.LeavesService v m (some e) ∧ v.tracks = s.tracks ∧ v.runs = s.runs ∧ v.answer = s.answer ∧ read v
    (r.faultCode ≠ 0 → ends filed .station) ∧
    (r.faultCode = 0 → r.position = none → ends filed .position) ∧
    ∀ p, r.faultCode = 0 → r.position = some p →
      let referred := if x.role = .lead then filed.referenced m p x.offset else filed
      let joined :=
        { referred with
          movers := tset referred.movers m
            { referred.mover m with progress := insertStation t.station (s.mover m).progress } }
      let complete := ∀ a, (s.station a).serves m = true → a = t.station ∨ a ∈ (s.mover m).progress
      let incapable := ∃ a, (joined.station a).serves m = true ∧ (joined.station a).role ≠ some .brake ∧
        (joined.station a).capability ≠ some .driveBrake
      let unbraked := ∃ a, (joined.station a).serves m = true ∧ ∀ q ∈ (joined.station a).report, q.brake ≠ .applied
      (t.command ≠ .ident → read referred) ∧
      (t.command = .ident →
        (¬ complete → read joined) ∧
        (complete → incapable → ends joined .capability) ∧
        (complete → ¬ incapable → unbraked → ends joined .brakeState) ∧
        (complete → ¬ incapable → ¬ unbraked →
          ((joined.mover m).reference = none → ends joined .position) ∧
          ((∀ c, (s.mover m).config = some c → s.track c.track = none) → ends joined .position) ∧
          ∀ ref c d, (joined.mover m).reference = some ref → (s.mover m).config = some c → s.track c.track = some d →
            let lo := ref - c.minusExtent
            let hi := ref + c.plusExtent
            let taken := fun i => ∃ g, d.segs[i]? = some g ∧ d.overlaps lo hi i = true ∧
              ¬ (g.holder = none ∧ g.blocked = false ∧ g.suspect = false)
            (d.liesOn lo hi = false → ends joined .position) ∧
            (∀ i, d.liesOn lo hi = true → taken i → (∀ j < i, ¬ taken j) → ends joined (.footprint (d.base + i))) ∧
            (∀ low high, d.liesOn lo hi = true → (∀ i, ¬ taken i) → high < d.count → low ≤ high →
              (∀ i < d.count, d.overlaps lo hi i = true ↔ low ≤ i ∧ i ≤ high) →
                read
                  { joined with
                    tracks := tset s.tracks c.track (some
                      { d with
                        segs := d.segs.mapIdx fun i g =>
                          if d.overlaps lo hi i = true then { g with holder := some m } else g })
                    runs := tset s.runs m (some { low := low, high := high })
                    movers := tset joined.movers m
                      { (joined.mover m).leave with state := .parked, enrol := some .ok, progress := [] }
                    stations := tmap (fun _ st => if st.serves m = true then
                      { st with standing := some .hold, urgent := false } else st) joined.stations })))

/-! ### Wind -/

/-- R155 to R162, R67: a pulse raises its counter as far as 65,535. A due sample reads and clears the counter, goes into the
window, trips on a gust, completes a full window with statistics and class, or enters DEAD or returns from it by the status
line. A change of the channel's class stops every STARTING or MOVING mover that selects it, is not storm-exempt and stands in
STORM, and parks every such QUEUED one, with reason WIND. The model's choices: one due time for each channel (log entry 24), no
effect before it (log entry 6), and the reaction to every notice that finds STORM (log entry 21). -/
def Obligations.WindSamples : Prop :=
  ∀ (s : State) (ch : ChannelNo) (high : Bool), s.resetLow = false →
    let c := tget s.wind.channels ch
    let w := s.wind.settings
    let channelled := fun (x : Channel) => { s with wind := { s.wind with channels := tset s.wind.channels ch x } }
    exec (.anemometerPulse ch) s = .next (channelled { c with pulses := min 65535 (c.pulses + 1) }) ∧
    (reached s.now c.due = false → exec (.windSample ch high) s = .next s) ∧
    (reached s.now c.due = true →
      let raw := min 999 (c.pulses * (if ch = 0 then w.scale0 else if ch = 1 then w.scale1 else w.scale2) / 64)
      let cleared := fun (x : Channel) =>
        { x with samples := 0, sum := 0, sumSq := 0, winMin := none, winMax := none, gustSeen := false }
      let read : Channel := { c with pulses := 0, raw := some raw, statusPin := high, due := c.due + 250#32 }
      let fresh : Channel := if c.dead = true then
        { cleared read with dead := false, cls := .live .storm, provisional := true } else read
      let gust := decide (w.stormGust ≤ raw)
      let added : Channel :=
        { fresh with
          samples := fresh.samples + 1, sum := fresh.sum + raw, sumSq := fresh.sumSq + raw * raw
          winMin := some (min (fresh.winMin.getD raw) raw), winMax := some (max (fresh.winMax.getD raw) raw)
          gustSeen := gust || fresh.gustSeen, gustTrip := gust || fresh.gustTrip
          cls := if gust = true then .live .storm else fresh.cls
          provisional := !gust && fresh.provisional }
      let n := w.window + 1
      let q := isqrt (added.sumSq / n)
      let top := added.winMax.getD 0
      let candidate : WindClass :=
        if w.stormQ ≤ q ∨ w.stormGust ≤ top then .storm
        else if w.strongQ ≤ q ∨ w.strongGust ≤ top then .strong
        else if w.breezyQ ≤ q then .breezy else .calm
      let judged := fun (k : WindClass) =>
        if added.provisional = true ∨ k.rank ≤ candidate.rank then candidate
        else match k with
          | .storm => if q + w.hysteresis < w.stormQ then .strong else .storm
          | .strong => if q + w.hysteresis < w.strongQ then .breezy else .strong
          | .breezy => if q + w.hysteresis < w.breezyQ then .calm else .breezy
          | .calm => .calm
      ∀ x : Channel,
        ((high = false ∧ c.dead = true ∧ x = read) ∨
          (high = false ∧ c.dead = false ∧
            x = { cleared read with
              dead := true, cls := .dead, gustTrip := false, available := false, stats := none, provisional := false }) ∨
          (high = true ∧ added.samples ≠ n ∧ x = added) ∨
          (high = true ∧ added.samples = n ∧ ∃ k, added.cls = .live k ∧
            x = { cleared added with
              stats := some { mean := added.sum / n, qmean := q, min := added.winMin.getD 0, max := top }
              available := true, cls := .live (judged k), provisional := false
              gustTrip := added.gustTrip && added.gustSeen })) →
        (x.cls = c.cls → exec (.windSample ch high) s = .next (channelled x).updateAlerts) ∧
        (x.cls ≠ c.cls → ∃ u, exec (.windSample ch high) s = .next u ∧
          (let s' := channelled x
          let bound := fun m => (s'.windClass m = .storm) ∧
            ∃ cfg, (s.mover m).config = some cfg ∧ cfg.exempt = false ∧ cfg.wind.testBit ch.val = true
          let stopped := fun m => bound m ∧ ((s.mover m).state = .starting ∨ (s.mover m).state = .moving)
          let parked := fun m => bound m ∧ (s.mover m).state = .queued
          u = State.updateAlerts
            { s' with movers := u.movers, stations := u.stations, arbiter := { s.arbiter with queue := u.arbiter.queue } } ∧
          (∀ m, (stopped m → u.mover m = (s'.stopped m .wind).mover m) ∧
            (parked m → u.mover m = { (s.mover m).leave with state := .parked, stopReason := some .wind }) ∧
            (¬ stopped m → ¬ parked m → u.mover m = s.mover m)) ∧
          (∀ a, (s.station a).assign = none → u.station a = s.station a) ∧
          (∀ a y, (s.station a).assign = some y →
            (stopped y.mover → u.station a = (s'.stopped y.mover .wind).station a) ∧
            (parked y.mover → u.station a = { s.station a with standing := some .hold, urgent := false }) ∧
            (¬ stopped y.mover → ¬ parked y.mover → u.station a = s.station a)) ∧
          ∃ keep : QueueEntry → Bool, (∀ e, keep e = true ↔ ¬ parked e.mover) ∧
            u.arbiter.queue = s.arbiter.queue.filter keep)))

/-- R154, R163, R164: SET_WIND refuses the first setting out of range or order by its item, changing nothing; otherwise it
stores all and restarts the window of every channel that is not DEAD, leaving classes, flags and statistics. The wind class of a
mover is CALM without a selected channel, STORM when every selected channel is DEAD, and otherwise the highest class among the
selected channels that are not DEAD. -/
def Obligations.WindSettingsAndClass : Prop :=
  (∀ (s : State) (w : WindSettings), s.resetLow = false →
    (∀ item, windFailure w = some item →
      exec (.setWind w) s = .next
        { s with answer := some { code := 0x60#8, status := .refusedRange, items := [u8 item] } }) ∧
    (windFailure w = none →
      exec (.setWind w) s = .next
        { s with
          wind :=
            { settings := w
              channels := tmap (fun _ c => if c.dead = true then c else
                { c with samples := 0, sum := 0, sumSq := 0, winMin := none, winMax := none, gustSeen := false })
                s.wind.channels }
          answer := some
            { code := 0x60#8, status := .ok
              items := [u16 w.scale0, u16 w.scale1, u16 w.scale2, u8 w.window, u16 w.breezyQ, u16 w.strongQ,
                u16 w.strongGust, u16 w.stormQ, u16 w.stormGust, u8 w.hysteresis] } })) ∧
  ∀ (s : State) (m : MoverNo) (c : MoverConfig), (s.mover m).config = some c →
    let selected := fun (ch : ChannelNo) => c.wind.testBit ch.val = true
    ((∀ ch, ¬ selected ch) → s.windClass m = .calm) ∧
    ((∃ ch, selected ch) → (∀ ch, selected ch → (tget s.wind.channels ch).cls = .dead) → s.windClass m = .storm) ∧
    ∀ ch k, selected ch → (tget s.wind.channels ch).cls = .live k →
      k.rank ≤ (s.windClass m).rank ∧ ∃ ch', selected ch' ∧ (tget s.wind.channels ch').cls = .live (s.windClass m)

/-! ### Inputs and alerts -/

/-- R166, R169 to R171, R168: the conditioning of the rain input and of the emergency-stop chain: a change of level starts or
stops the timer of the state it would lead to, 2,000 ms and 60,000 ms, 100 ms and 5 ms; the expiry of a running timer changes
the state, the chain's opening also writes its time and sends both notices. ACK_ALERTS clears the latched flag of every named
alert that is not active, and answers the named alerts that stayed latched and ATTN. The model's choices: an expiry before its
time, or of a timer that does not run, does nothing (log entry 6), and ACK_ALERTS lists alerts by their codes in Table 11-3 (log
entry 11). -/
def Obligations.InputsAndAlerts : Prop :=
  ∀ s : State, s.resetLow = false →
    let x := s.inputs
    let input (u : Inputs) : State := { s with inputs := u }
    (∀ high,
      (high = x.rainPin → exec (.rainInputChange high) s = .next s) ∧
      (high = x.estopPin → exec (.estopInputChange high) s = .next s) ∧
      (high ≠ x.rainPin →
        exec (.rainInputChange high) s = .next (input
          { x with
            rainPin := high
            rainTimer :=
              if x.rainActive = false ∧ high = true then some (s.now + 2000#32)
              else if x.rainActive = true ∧ high = false then some (s.now + 60000#32) else none })) ∧
      (high ≠ x.estopPin →
        exec (.estopInputChange high) s = .next (input
          { x with
            estopPin := high
            chainTimer :=
              if x.chainOpen = true ∧ high = true then some (s.now + 100#32)
              else if x.chainOpen = false ∧ high = false then some (s.now + 5#32) else none }))) ∧
    (∀ e, x.rainTimer = some e → reached s.now e = true →
      (x.rainActive = false →
        exec .rainOnExpiry s = .next (input { x with rainActive := true, rainTimer := none }).updateAlerts) ∧
      (x.rainActive = true →
        exec .rainOffExpiry s = .next (input { x with rainActive := false, rainTimer := none }).updateAlerts)) ∧
    ((∀ e, x.rainTimer = some e → reached s.now e = false) →
      exec .rainOnExpiry s = .next s ∧ exec .rainOffExpiry s = .next s) ∧
    (x.rainActive = true → exec .rainOnExpiry s = .next s) ∧ (x.rainActive = false → exec .rainOffExpiry s = .next s) ∧
    (∀ e, x.chainTimer = some e → reached s.now e = true →
      (x.chainOpen = false →
        exec .chainOpen s = .next (State.updateAlerts
          { s with
            inputs := { x with chainOpen := true, chainTimer := none, lastOpening := some s.now }
            openingsMovers := s.openingsMovers + 1, openingsFieldLink := s.openingsFieldLink + 1 })) ∧
      (x.chainOpen = true →
        exec .chainClosed s = .next (input { x with chainOpen := false, chainTimer := none }).updateAlerts)) ∧
    ((∀ e, x.chainTimer = some e → reached s.now e = false) →
      exec .chainOpen s = .next s ∧ exec .chainClosed s = .next s) ∧
    (x.chainOpen = true → exec .chainOpen s = .next s) ∧ (x.chainOpen = false → exec .chainClosed s = .next s) ∧
    ∀ set : Nat, ∃ u, exec (.ackAlerts set) s = .next u ∧ u = { s with alerts := u.alerts, answer := u.answer } ∧
      (∀ n i, alertNames[i]? = some n →
        (u.alerts.get n).active = (s.alerts.get n).active ∧
        (set.testBit i = true → (s.alerts.get n).active = false → (u.alerts.get n).latched = false) ∧
        (set.testBit i = false ∨ (s.alerts.get n).active = true →
          (u.alerts.get n).latched = (s.alerts.get n).latched)) ∧
      let kept := alertNames.zipIdx.filter fun y => set.testBit y.2 && (u.alerts.get y.1).latched
      u.answer = some
        { code := 0x71#8, status := .ok
          items := [u8 kept.length] ++ kept.map (fun y => u8 (2 ^ y.2)) ++
            [u8 (if (alertNames.any fun n => (u.alerts.get n).latched) = true then 1 else 0)] }

/-! ### The supervisory link -/

/-- R173 to R177: the receiver takes the line byte by byte. Hunting it passes over every byte but a 0x5A; then the length byte,
which drops the frame when it is out of range; then as many bytes as it calls for, of which the last has the frame judged. A
frame with a byte error or a wrong CRC is discarded. A sound frame waits while an answer is being sent, the third to wait is
discarded; an idle port takes it at once, decodes it and acts on it as its command, or answers BAD_REQUEST; the answer goes out
in a frame with the request's tag. A gap drops the frame under way. At the end of an answer the next waiting frame is taken. The
model's choices: FRAME_RECEIVED and FRAME_LENGTH_DROP carry the line's bytes, which may end inside a frame, and the gap is what
FRAME_GAP_TIMEOUT says and ANSWER_SENT without an answer does nothing (log entry 8); a taken request acts within the port's step
and leaves its answer in State (log entry 4). -/
def Obligations.PortFrames : Prop :=
  ∀ s : State, s.resetLow = false →
    let runs := fun (line : List LineByte) (last : LineByte) => exec (.frameReceived line last) s
    let leaves := fun (rx : Receiver) => { s with port := { s.port with receiver := rx } }
    let sends := fun (u : State) (f : Frame) (a : Answer) =>
      { u with
        port :=
          { u.port with
            sending := some (supervisoryFrame f.tag (BitVec.ofNat 8 a.status.code)
              (a.code :: a.items.flatMap fun i => toBytes i.size i.value)) } }
    let takes := fun (i : Instr) (u : State) (f : Frame) =>
      (∀ why, decodeRequest f.code f.body = .error why →
        let a : Answer :=
          { code := f.code, status := .badRequest
            items := match why with | .unknownCode => [u8 0x01] | .length n => [u8 0x02, u8 n.toNat] }
        exec i s = .next (sends { u with answer := some a } f a)) ∧
      ∀ req v, decodeRequest f.code f.body = .ok req → exec req u = .next v →
        ∃ a, v.answer = some a ∧ exec i s = .next (sends v f a)
    let receives := fun (line : List LineByte) (last : LineByte) (f : Frame) =>
      (s.port.sending ≠ none → s.port.buffer.length < 2 →
        runs line last = .next { s with port := { s.port with receiver := .hunting, buffer := s.port.buffer ++ [f] } }) ∧
      (s.port.sending ≠ none → 2 ≤ s.port.buffer.length → runs line last = .next (leaves .hunting)) ∧
      (s.port.sending = none → s.port.buffer = [] → takes (.frameReceived line last) (leaves .hunting) f)
    -- the bytes one after the other
    (∀ b line last v, runs [] b = .next v → runs (b :: line) last = exec (.frameReceived line last) v) ∧
    -- one byte
    (s.port.receiver = .hunting → ∀ b : LineByte,
      (b.error = false → b.value = 0x5A#8 → runs [] b = .next (leaves (.inFrame [0x5A#8] false))) ∧
      (b.error = true ∨ b.value ≠ 0x5A#8 → runs [] b = .next s)) ∧
    (∀ spoiled, s.port.receiver = .inFrame [0x5A#8] spoiled → ∀ b : LineByte,
      (b.value.toNat < 2 ∨ 252 < b.value.toNat → runs [] b = .next (leaves .hunting)) ∧
      (2 ≤ b.value.toNat → b.value.toNat ≤ 252 →
        runs [] b = .next (leaves (.inFrame [0x5A#8, b.value] (spoiled || b.error))))) ∧
    (∀ (len : Byte) (rest : List Byte) (spoiled : Bool), s.port.receiver = .inFrame (0x5A#8 :: len :: rest) spoiled →
      2 ≤ len.toNat → len.toNat ≤ 252 → ∀ b : LineByte,
        let grown := 0x5A#8 :: len :: (rest ++ [b.value])
        (rest.length + 1 < len.toNat + 2 → runs [] b = .next (leaves (.inFrame grown (spoiled || b.error)))) ∧
        (rest.length + 1 = len.toNat + 2 →
          (spoiled = true ∨ b.error = true ∨ readFrame grown = none → runs [] b = .next (leaves .hunting)) ∧
          ∀ f, spoiled = false → b.error = false → readFrame grown = some f → receives [] b f)) ∧
    -- whole frames, with bytes before them that are passed over
    (s.port.receiver = .hunting → ∀ noise : List LineByte, (∀ b ∈ noise, b.error = true ∨ b.value ≠ 0x5A#8) →
      (∀ f bytes last, readFrame (bytes ++ [last]) = some f →
        receives (noise ++ bytes.map fun v => ⟨v, false⟩) ⟨last, false⟩ f) ∧
      ∀ (len last : LineByte) (rest : List LineByte), 2 ≤ len.value.toNat → len.value.toNat ≤ 252 →
        rest.length + 1 = len.value.toNat + 2 →
        readFrame (0x5A#8 :: len.value :: (rest ++ [last]).map fun b => b.value) = none ∨
            (∃ b ∈ len :: last :: rest, b.error = true) →
          runs (noise ++ ⟨0x5A#8, false⟩ :: len :: rest) last = .next s) ∧
    -- the other rows
    (∀ line last, exec (.frameLengthDrop (line ++ [last])) s = runs line last) ∧
    exec (.frameLengthDrop []) s = .next s ∧
    (s.port.receiver = .hunting → ∀ len : LineByte, len.value.toNat < 2 ∨ 252 < len.value.toNat →
      exec (.frameLengthDrop [⟨0x5A#8, false⟩, len]) s = .next s) ∧
    exec .frameGapTimeout s = .next (leaves .hunting) ∧
    (s.port.sending = none → exec .answerSent s = .next s) ∧
    (s.port.sending ≠ none → s.port.buffer = [] →
      exec .answerSent s = .next { s with port := { s.port with sending := none } }) ∧
    ∀ f rest, s.port.sending ≠ none → s.port.buffer = f :: rest →
      takes .answerSent { s with port := { s.port with sending := none, buffer := rest } } f

end
end

