-- ==== Sys2Proof/Laws/State.lean ====
section
/-!
SUPPORT. What each update of the state leaves of each field, and what the record accessors read after it: the small lemmas over
which later proofs work without unfolding an update.
-/

namespace Sys2Proof.Machine

open Sys2Proof

variable (s : State)

/-! ### modMover -/

@[simp] theorem State.modMover_now (m : MoverNo) (f : Mover → Mover) : (s.modMover m f).now = s.now := rfl
@[simp] theorem State.modMover_resetLow (m : MoverNo) (f : Mover → Mover) : (s.modMover m f).resetLow = s.resetLow := rfl
@[simp] theorem State.modMover_tracks (m : MoverNo) (f : Mover → Mover) : (s.modMover m f).tracks = s.tracks := rfl
@[simp] theorem State.modMover_serial (m : MoverNo) (f : Mover → Mover) : (s.modMover m f).serial = s.serial := rfl
@[simp] theorem State.modMover_runs (m : MoverNo) (f : Mover → Mover) : (s.modMover m f).runs = s.runs := rfl
@[simp] theorem State.modMover_arbiter (m : MoverNo) (f : Mover → Mover) : (s.modMover m f).arbiter = s.arbiter := rfl
@[simp] theorem State.modMover_stations (m : MoverNo) (f : Mover → Mover) : (s.modMover m f).stations = s.stations := rfl
@[simp] theorem State.modMover_link (m : MoverNo) (f : Mover → Mover) : (s.modMover m f).link = s.link := rfl
@[simp] theorem State.modMover_proving (m : MoverNo) (f : Mover → Mover) : (s.modMover m f).proving = s.proving := rfl
@[simp] theorem State.modMover_toReservation (m : MoverNo) (f : Mover → Mover) : (s.modMover m f).toReservation = s.toReservation := rfl
@[simp] theorem State.modMover_toMovers (m : MoverNo) (f : Mover → Mover) : (s.modMover m f).toMovers = s.toMovers := rfl
@[simp] theorem State.modMover_wind (m : MoverNo) (f : Mover → Mover) : (s.modMover m f).wind = s.wind := rfl
@[simp] theorem State.modMover_inputs (m : MoverNo) (f : Mover → Mover) : (s.modMover m f).inputs = s.inputs := rfl
@[simp] theorem State.modMover_openingsMovers (m : MoverNo) (f : Mover → Mover) : (s.modMover m f).openingsMovers = s.openingsMovers := rfl
@[simp] theorem State.modMover_openingsFieldLink (m : MoverNo) (f : Mover → Mover) : (s.modMover m f).openingsFieldLink = s.openingsFieldLink := rfl
@[simp] theorem State.modMover_alerts (m : MoverNo) (f : Mover → Mover) : (s.modMover m f).alerts = s.alerts := rfl
@[simp] theorem State.modMover_port (m : MoverNo) (f : Mover → Mover) : (s.modMover m f).port = s.port := rfl
@[simp] theorem State.modMover_answer (m : MoverNo) (f : Mover → Mover) : (s.modMover m f).answer = s.answer := rfl
@[simp] theorem State.modMover_pending (m : MoverNo) (f : Mover → Mover) : (s.modMover m f).pending = s.pending := rfl

/-! ### modStation -/

@[simp] theorem State.modStation_now (a : StationNo) (f : Station → Station) : (s.modStation a f).now = s.now := rfl
@[simp] theorem State.modStation_resetLow (a : StationNo) (f : Station → Station) : (s.modStation a f).resetLow = s.resetLow := rfl
@[simp] theorem State.modStation_tracks (a : StationNo) (f : Station → Station) : (s.modStation a f).tracks = s.tracks := rfl
@[simp] theorem State.modStation_serial (a : StationNo) (f : Station → Station) : (s.modStation a f).serial = s.serial := rfl
@[simp] theorem State.modStation_runs (a : StationNo) (f : Station → Station) : (s.modStation a f).runs = s.runs := rfl
@[simp] theorem State.modStation_movers (a : StationNo) (f : Station → Station) : (s.modStation a f).movers = s.movers := rfl
@[simp] theorem State.modStation_arbiter (a : StationNo) (f : Station → Station) : (s.modStation a f).arbiter = s.arbiter := rfl
@[simp] theorem State.modStation_link (a : StationNo) (f : Station → Station) : (s.modStation a f).link = s.link := rfl
@[simp] theorem State.modStation_proving (a : StationNo) (f : Station → Station) : (s.modStation a f).proving = s.proving := rfl
@[simp] theorem State.modStation_toReservation (a : StationNo) (f : Station → Station) : (s.modStation a f).toReservation = s.toReservation := rfl
@[simp] theorem State.modStation_toMovers (a : StationNo) (f : Station → Station) : (s.modStation a f).toMovers = s.toMovers := rfl
@[simp] theorem State.modStation_wind (a : StationNo) (f : Station → Station) : (s.modStation a f).wind = s.wind := rfl
@[simp] theorem State.modStation_inputs (a : StationNo) (f : Station → Station) : (s.modStation a f).inputs = s.inputs := rfl
@[simp] theorem State.modStation_openingsMovers (a : StationNo) (f : Station → Station) : (s.modStation a f).openingsMovers = s.openingsMovers := rfl
@[simp] theorem State.modStation_openingsFieldLink (a : StationNo) (f : Station → Station) : (s.modStation a f).openingsFieldLink = s.openingsFieldLink := rfl
@[simp] theorem State.modStation_alerts (a : StationNo) (f : Station → Station) : (s.modStation a f).alerts = s.alerts := rfl
@[simp] theorem State.modStation_port (a : StationNo) (f : Station → Station) : (s.modStation a f).port = s.port := rfl
@[simp] theorem State.modStation_answer (a : StationNo) (f : Station → Station) : (s.modStation a f).answer = s.answer := rfl
@[simp] theorem State.modStation_pending (a : StationNo) (f : Station → Station) : (s.modStation a f).pending = s.pending := rfl

/-! ### modStationsOf -/

@[simp] theorem State.modStationsOf_now (m : MoverNo) (f : Station → Station) : (s.modStationsOf m f).now = s.now := by
  simp only [State.modStationsOf]
@[simp] theorem State.modStationsOf_resetLow (m : MoverNo) (f : Station → Station) : (s.modStationsOf m f).resetLow = s.resetLow := by
  simp only [State.modStationsOf]
@[simp] theorem State.modStationsOf_tracks (m : MoverNo) (f : Station → Station) : (s.modStationsOf m f).tracks = s.tracks := by
  simp only [State.modStationsOf]
@[simp] theorem State.modStationsOf_serial (m : MoverNo) (f : Station → Station) : (s.modStationsOf m f).serial = s.serial := by
  simp only [State.modStationsOf]
@[simp] theorem State.modStationsOf_runs (m : MoverNo) (f : Station → Station) : (s.modStationsOf m f).runs = s.runs := by
  simp only [State.modStationsOf]
@[simp] theorem State.modStationsOf_movers (m : MoverNo) (f : Station → Station) : (s.modStationsOf m f).movers = s.movers := by
  simp only [State.modStationsOf]
@[simp] theorem State.modStationsOf_arbiter (m : MoverNo) (f : Station → Station) : (s.modStationsOf m f).arbiter = s.arbiter := by
  simp only [State.modStationsOf]
@[simp] theorem State.modStationsOf_link (m : MoverNo) (f : Station → Station) : (s.modStationsOf m f).link = s.link := by
  simp only [State.modStationsOf]
@[simp] theorem State.modStationsOf_proving (m : MoverNo) (f : Station → Station) : (s.modStationsOf m f).proving = s.proving := by
  simp only [State.modStationsOf]
@[simp] theorem State.modStationsOf_toReservation (m : MoverNo) (f : Station → Station) : (s.modStationsOf m f).toReservation = s.toReservation := by
  simp only [State.modStationsOf]
@[simp] theorem State.modStationsOf_toMovers (m : MoverNo) (f : Station → Station) : (s.modStationsOf m f).toMovers = s.toMovers := by
  simp only [State.modStationsOf]
@[simp] theorem State.modStationsOf_wind (m : MoverNo) (f : Station → Station) : (s.modStationsOf m f).wind = s.wind := by
  simp only [State.modStationsOf]
@[simp] theorem State.modStationsOf_inputs (m : MoverNo) (f : Station → Station) : (s.modStationsOf m f).inputs = s.inputs := by
  simp only [State.modStationsOf]
@[simp] theorem State.modStationsOf_openingsMovers (m : MoverNo) (f : Station → Station) : (s.modStationsOf m f).openingsMovers = s.openingsMovers := by
  simp only [State.modStationsOf]
@[simp] theorem State.modStationsOf_openingsFieldLink (m : MoverNo) (f : Station → Station) : (s.modStationsOf m f).openingsFieldLink = s.openingsFieldLink := by
  simp only [State.modStationsOf]
@[simp] theorem State.modStationsOf_alerts (m : MoverNo) (f : Station → Station) : (s.modStationsOf m f).alerts = s.alerts := by
  simp only [State.modStationsOf]
@[simp] theorem State.modStationsOf_port (m : MoverNo) (f : Station → Station) : (s.modStationsOf m f).port = s.port := by
  simp only [State.modStationsOf]
@[simp] theorem State.modStationsOf_answer (m : MoverNo) (f : Station → Station) : (s.modStationsOf m f).answer = s.answer := by
  simp only [State.modStationsOf]
@[simp] theorem State.modStationsOf_pending (m : MoverNo) (f : Station → Station) : (s.modStationsOf m f).pending = s.pending := by
  simp only [State.modStationsOf]

/-! ### standAll -/

@[simp] theorem State.standAll_now (m : MoverNo) (c : Command) (u : Bool) : (s.standAll m c u).now = s.now :=
  State.modStationsOf_now s m _
@[simp] theorem State.standAll_resetLow (m : MoverNo) (c : Command) (u : Bool) : (s.standAll m c u).resetLow = s.resetLow :=
  State.modStationsOf_resetLow s m _
@[simp] theorem State.standAll_tracks (m : MoverNo) (c : Command) (u : Bool) : (s.standAll m c u).tracks = s.tracks :=
  State.modStationsOf_tracks s m _
@[simp] theorem State.standAll_serial (m : MoverNo) (c : Command) (u : Bool) : (s.standAll m c u).serial = s.serial :=
  State.modStationsOf_serial s m _
@[simp] theorem State.standAll_runs (m : MoverNo) (c : Command) (u : Bool) : (s.standAll m c u).runs = s.runs :=
  State.modStationsOf_runs s m _
@[simp] theorem State.standAll_movers (m : MoverNo) (c : Command) (u : Bool) : (s.standAll m c u).movers = s.movers :=
  State.modStationsOf_movers s m _
@[simp] theorem State.standAll_arbiter (m : MoverNo) (c : Command) (u : Bool) : (s.standAll m c u).arbiter = s.arbiter :=
  State.modStationsOf_arbiter s m _
@[simp] theorem State.standAll_link (m : MoverNo) (c : Command) (u : Bool) : (s.standAll m c u).link = s.link :=
  State.modStationsOf_link s m _
@[simp] theorem State.standAll_proving (m : MoverNo) (c : Command) (u : Bool) : (s.standAll m c u).proving = s.proving :=
  State.modStationsOf_proving s m _
@[simp] theorem State.standAll_toReservation (m : MoverNo) (c : Command) (u : Bool) : (s.standAll m c u).toReservation = s.toReservation :=
  State.modStationsOf_toReservation s m _
@[simp] theorem State.standAll_toMovers (m : MoverNo) (c : Command) (u : Bool) : (s.standAll m c u).toMovers = s.toMovers :=
  State.modStationsOf_toMovers s m _
@[simp] theorem State.standAll_wind (m : MoverNo) (c : Command) (u : Bool) : (s.standAll m c u).wind = s.wind :=
  State.modStationsOf_wind s m _
@[simp] theorem State.standAll_inputs (m : MoverNo) (c : Command) (u : Bool) : (s.standAll m c u).inputs = s.inputs :=
  State.modStationsOf_inputs s m _
@[simp] theorem State.standAll_openingsMovers (m : MoverNo) (c : Command) (u : Bool) : (s.standAll m c u).openingsMovers = s.openingsMovers :=
  State.modStationsOf_openingsMovers s m _
@[simp] theorem State.standAll_openingsFieldLink (m : MoverNo) (c : Command) (u : Bool) : (s.standAll m c u).openingsFieldLink = s.openingsFieldLink :=
  State.modStationsOf_openingsFieldLink s m _
@[simp] theorem State.standAll_alerts (m : MoverNo) (c : Command) (u : Bool) : (s.standAll m c u).alerts = s.alerts :=
  State.modStationsOf_alerts s m _
@[simp] theorem State.standAll_port (m : MoverNo) (c : Command) (u : Bool) : (s.standAll m c u).port = s.port :=
  State.modStationsOf_port s m _
@[simp] theorem State.standAll_answer (m : MoverNo) (c : Command) (u : Bool) : (s.standAll m c u).answer = s.answer :=
  State.modStationsOf_answer s m _
@[simp] theorem State.standAll_pending (m : MoverNo) (c : Command) (u : Bool) : (s.standAll m c u).pending = s.pending :=
  State.modStationsOf_pending s m _

/-! ### modLink -/

@[simp] theorem State.modLink_now (a : StationNo) (f : Link → Link) : (s.modLink a f).now = s.now := rfl
@[simp] theorem State.modLink_resetLow (a : StationNo) (f : Link → Link) : (s.modLink a f).resetLow = s.resetLow := rfl
@[simp] theorem State.modLink_tracks (a : StationNo) (f : Link → Link) : (s.modLink a f).tracks = s.tracks := rfl
@[simp] theorem State.modLink_serial (a : StationNo) (f : Link → Link) : (s.modLink a f).serial = s.serial := rfl
@[simp] theorem State.modLink_runs (a : StationNo) (f : Link → Link) : (s.modLink a f).runs = s.runs := rfl
@[simp] theorem State.modLink_movers (a : StationNo) (f : Link → Link) : (s.modLink a f).movers = s.movers := rfl
@[simp] theorem State.modLink_arbiter (a : StationNo) (f : Link → Link) : (s.modLink a f).arbiter = s.arbiter := rfl
@[simp] theorem State.modLink_stations (a : StationNo) (f : Link → Link) : (s.modLink a f).stations = s.stations := rfl
@[simp] theorem State.modLink_proving (a : StationNo) (f : Link → Link) : (s.modLink a f).proving = s.proving := rfl
@[simp] theorem State.modLink_toReservation (a : StationNo) (f : Link → Link) : (s.modLink a f).toReservation = s.toReservation := rfl
@[simp] theorem State.modLink_toMovers (a : StationNo) (f : Link → Link) : (s.modLink a f).toMovers = s.toMovers := rfl
@[simp] theorem State.modLink_wind (a : StationNo) (f : Link → Link) : (s.modLink a f).wind = s.wind := rfl
@[simp] theorem State.modLink_inputs (a : StationNo) (f : Link → Link) : (s.modLink a f).inputs = s.inputs := rfl
@[simp] theorem State.modLink_openingsMovers (a : StationNo) (f : Link → Link) : (s.modLink a f).openingsMovers = s.openingsMovers := rfl
@[simp] theorem State.modLink_openingsFieldLink (a : StationNo) (f : Link → Link) : (s.modLink a f).openingsFieldLink = s.openingsFieldLink := rfl
@[simp] theorem State.modLink_alerts (a : StationNo) (f : Link → Link) : (s.modLink a f).alerts = s.alerts := rfl
@[simp] theorem State.modLink_port (a : StationNo) (f : Link → Link) : (s.modLink a f).port = s.port := rfl
@[simp] theorem State.modLink_answer (a : StationNo) (f : Link → Link) : (s.modLink a f).answer = s.answer := rfl
@[simp] theorem State.modLink_pending (a : StationNo) (f : Link → Link) : (s.modLink a f).pending = s.pending := rfl

/-! ### setTrack -/

@[simp] theorem State.setTrack_now (k : TrackNo) (t : Option Track) : (s.setTrack k t).now = s.now := rfl
@[simp] theorem State.setTrack_resetLow (k : TrackNo) (t : Option Track) : (s.setTrack k t).resetLow = s.resetLow := rfl
@[simp] theorem State.setTrack_serial (k : TrackNo) (t : Option Track) : (s.setTrack k t).serial = s.serial := rfl
@[simp] theorem State.setTrack_runs (k : TrackNo) (t : Option Track) : (s.setTrack k t).runs = s.runs := rfl
@[simp] theorem State.setTrack_movers (k : TrackNo) (t : Option Track) : (s.setTrack k t).movers = s.movers := rfl
@[simp] theorem State.setTrack_arbiter (k : TrackNo) (t : Option Track) : (s.setTrack k t).arbiter = s.arbiter := rfl
@[simp] theorem State.setTrack_stations (k : TrackNo) (t : Option Track) : (s.setTrack k t).stations = s.stations := rfl
@[simp] theorem State.setTrack_link (k : TrackNo) (t : Option Track) : (s.setTrack k t).link = s.link := rfl
@[simp] theorem State.setTrack_proving (k : TrackNo) (t : Option Track) : (s.setTrack k t).proving = s.proving := rfl
@[simp] theorem State.setTrack_toReservation (k : TrackNo) (t : Option Track) : (s.setTrack k t).toReservation = s.toReservation := rfl
@[simp] theorem State.setTrack_toMovers (k : TrackNo) (t : Option Track) : (s.setTrack k t).toMovers = s.toMovers := rfl
@[simp] theorem State.setTrack_wind (k : TrackNo) (t : Option Track) : (s.setTrack k t).wind = s.wind := rfl
@[simp] theorem State.setTrack_inputs (k : TrackNo) (t : Option Track) : (s.setTrack k t).inputs = s.inputs := rfl
@[simp] theorem State.setTrack_openingsMovers (k : TrackNo) (t : Option Track) : (s.setTrack k t).openingsMovers = s.openingsMovers := rfl
@[simp] theorem State.setTrack_openingsFieldLink (k : TrackNo) (t : Option Track) : (s.setTrack k t).openingsFieldLink = s.openingsFieldLink := rfl
@[simp] theorem State.setTrack_alerts (k : TrackNo) (t : Option Track) : (s.setTrack k t).alerts = s.alerts := rfl
@[simp] theorem State.setTrack_port (k : TrackNo) (t : Option Track) : (s.setTrack k t).port = s.port := rfl
@[simp] theorem State.setTrack_answer (k : TrackNo) (t : Option Track) : (s.setTrack k t).answer = s.answer := rfl
@[simp] theorem State.setTrack_pending (k : TrackNo) (t : Option Track) : (s.setTrack k t).pending = s.pending := rfl

/-! ### setRun -/

@[simp] theorem State.setRun_now (m : MoverNo) (r : Option Run) : (s.setRun m r).now = s.now := rfl
@[simp] theorem State.setRun_resetLow (m : MoverNo) (r : Option Run) : (s.setRun m r).resetLow = s.resetLow := rfl
@[simp] theorem State.setRun_tracks (m : MoverNo) (r : Option Run) : (s.setRun m r).tracks = s.tracks := rfl
@[simp] theorem State.setRun_serial (m : MoverNo) (r : Option Run) : (s.setRun m r).serial = s.serial := rfl
@[simp] theorem State.setRun_movers (m : MoverNo) (r : Option Run) : (s.setRun m r).movers = s.movers := rfl
@[simp] theorem State.setRun_arbiter (m : MoverNo) (r : Option Run) : (s.setRun m r).arbiter = s.arbiter := rfl
@[simp] theorem State.setRun_stations (m : MoverNo) (r : Option Run) : (s.setRun m r).stations = s.stations := rfl
@[simp] theorem State.setRun_link (m : MoverNo) (r : Option Run) : (s.setRun m r).link = s.link := rfl
@[simp] theorem State.setRun_proving (m : MoverNo) (r : Option Run) : (s.setRun m r).proving = s.proving := rfl
@[simp] theorem State.setRun_toReservation (m : MoverNo) (r : Option Run) : (s.setRun m r).toReservation = s.toReservation := rfl
@[simp] theorem State.setRun_toMovers (m : MoverNo) (r : Option Run) : (s.setRun m r).toMovers = s.toMovers := rfl
@[simp] theorem State.setRun_wind (m : MoverNo) (r : Option Run) : (s.setRun m r).wind = s.wind := rfl
@[simp] theorem State.setRun_inputs (m : MoverNo) (r : Option Run) : (s.setRun m r).inputs = s.inputs := rfl
@[simp] theorem State.setRun_openingsMovers (m : MoverNo) (r : Option Run) : (s.setRun m r).openingsMovers = s.openingsMovers := rfl
@[simp] theorem State.setRun_openingsFieldLink (m : MoverNo) (r : Option Run) : (s.setRun m r).openingsFieldLink = s.openingsFieldLink := rfl
@[simp] theorem State.setRun_alerts (m : MoverNo) (r : Option Run) : (s.setRun m r).alerts = s.alerts := rfl
@[simp] theorem State.setRun_port (m : MoverNo) (r : Option Run) : (s.setRun m r).port = s.port := rfl
@[simp] theorem State.setRun_answer (m : MoverNo) (r : Option Run) : (s.setRun m r).answer = s.answer := rfl
@[simp] theorem State.setRun_pending (m : MoverNo) (r : Option Run) : (s.setRun m r).pending = s.pending := rfl

/-! ### reply -/

@[simp] theorem State.reply_now (c : Byte) (st : Status) (items : List Item) : (s.reply c st items).now = s.now := rfl
@[simp] theorem State.reply_resetLow (c : Byte) (st : Status) (items : List Item) : (s.reply c st items).resetLow = s.resetLow := rfl
@[simp] theorem State.reply_tracks (c : Byte) (st : Status) (items : List Item) : (s.reply c st items).tracks = s.tracks := rfl
@[simp] theorem State.reply_serial (c : Byte) (st : Status) (items : List Item) : (s.reply c st items).serial = s.serial := rfl
@[simp] theorem State.reply_runs (c : Byte) (st : Status) (items : List Item) : (s.reply c st items).runs = s.runs := rfl
@[simp] theorem State.reply_movers (c : Byte) (st : Status) (items : List Item) : (s.reply c st items).movers = s.movers := rfl
@[simp] theorem State.reply_arbiter (c : Byte) (st : Status) (items : List Item) : (s.reply c st items).arbiter = s.arbiter := rfl
@[simp] theorem State.reply_stations (c : Byte) (st : Status) (items : List Item) : (s.reply c st items).stations = s.stations := rfl
@[simp] theorem State.reply_link (c : Byte) (st : Status) (items : List Item) : (s.reply c st items).link = s.link := rfl
@[simp] theorem State.reply_proving (c : Byte) (st : Status) (items : List Item) : (s.reply c st items).proving = s.proving := rfl
@[simp] theorem State.reply_toReservation (c : Byte) (st : Status) (items : List Item) : (s.reply c st items).toReservation = s.toReservation := rfl
@[simp] theorem State.reply_toMovers (c : Byte) (st : Status) (items : List Item) : (s.reply c st items).toMovers = s.toMovers := rfl
@[simp] theorem State.reply_wind (c : Byte) (st : Status) (items : List Item) : (s.reply c st items).wind = s.wind := rfl
@[simp] theorem State.reply_inputs (c : Byte) (st : Status) (items : List Item) : (s.reply c st items).inputs = s.inputs := rfl
@[simp] theorem State.reply_openingsMovers (c : Byte) (st : Status) (items : List Item) : (s.reply c st items).openingsMovers = s.openingsMovers := rfl
@[simp] theorem State.reply_openingsFieldLink (c : Byte) (st : Status) (items : List Item) : (s.reply c st items).openingsFieldLink = s.openingsFieldLink := rfl
@[simp] theorem State.reply_alerts (c : Byte) (st : Status) (items : List Item) : (s.reply c st items).alerts = s.alerts := rfl
@[simp] theorem State.reply_port (c : Byte) (st : Status) (items : List Item) : (s.reply c st items).port = s.port := rfl
@[simp] theorem State.reply_pending (c : Byte) (st : Status) (items : List Item) : (s.reply c st items).pending = s.pending := rfl

/-! ### modServiceOf -/

@[simp] theorem State.modServiceOf_now (m : MoverNo) (f : Station → Station) (g : Link → Link) : (s.modServiceOf m f g).now = s.now := by
  simp only [State.modServiceOf]
@[simp] theorem State.modServiceOf_resetLow (m : MoverNo) (f : Station → Station) (g : Link → Link) : (s.modServiceOf m f g).resetLow = s.resetLow := by
  simp only [State.modServiceOf]
@[simp] theorem State.modServiceOf_tracks (m : MoverNo) (f : Station → Station) (g : Link → Link) : (s.modServiceOf m f g).tracks = s.tracks := by
  simp only [State.modServiceOf]
@[simp] theorem State.modServiceOf_serial (m : MoverNo) (f : Station → Station) (g : Link → Link) : (s.modServiceOf m f g).serial = s.serial := by
  simp only [State.modServiceOf]
@[simp] theorem State.modServiceOf_runs (m : MoverNo) (f : Station → Station) (g : Link → Link) : (s.modServiceOf m f g).runs = s.runs := by
  simp only [State.modServiceOf]
@[simp] theorem State.modServiceOf_movers (m : MoverNo) (f : Station → Station) (g : Link → Link) : (s.modServiceOf m f g).movers = s.movers := by
  simp only [State.modServiceOf]
@[simp] theorem State.modServiceOf_arbiter (m : MoverNo) (f : Station → Station) (g : Link → Link) : (s.modServiceOf m f g).arbiter = s.arbiter := by
  simp only [State.modServiceOf]
@[simp] theorem State.modServiceOf_proving (m : MoverNo) (f : Station → Station) (g : Link → Link) : (s.modServiceOf m f g).proving = s.proving := by
  simp only [State.modServiceOf]
@[simp] theorem State.modServiceOf_toReservation (m : MoverNo) (f : Station → Station) (g : Link → Link) : (s.modServiceOf m f g).toReservation = s.toReservation := by
  simp only [State.modServiceOf]
@[simp] theorem State.modServiceOf_toMovers (m : MoverNo) (f : Station → Station) (g : Link → Link) : (s.modServiceOf m f g).toMovers = s.toMovers := by
  simp only [State.modServiceOf]
@[simp] theorem State.modServiceOf_wind (m : MoverNo) (f : Station → Station) (g : Link → Link) : (s.modServiceOf m f g).wind = s.wind := by
  simp only [State.modServiceOf]
@[simp] theorem State.modServiceOf_inputs (m : MoverNo) (f : Station → Station) (g : Link → Link) : (s.modServiceOf m f g).inputs = s.inputs := by
  simp only [State.modServiceOf]
@[simp] theorem State.modServiceOf_openingsMovers (m : MoverNo) (f : Station → Station) (g : Link → Link) : (s.modServiceOf m f g).openingsMovers = s.openingsMovers := by
  simp only [State.modServiceOf]
@[simp] theorem State.modServiceOf_openingsFieldLink (m : MoverNo) (f : Station → Station) (g : Link → Link) : (s.modServiceOf m f g).openingsFieldLink = s.openingsFieldLink := by
  simp only [State.modServiceOf]
@[simp] theorem State.modServiceOf_alerts (m : MoverNo) (f : Station → Station) (g : Link → Link) : (s.modServiceOf m f g).alerts = s.alerts := by
  simp only [State.modServiceOf]
@[simp] theorem State.modServiceOf_port (m : MoverNo) (f : Station → Station) (g : Link → Link) : (s.modServiceOf m f g).port = s.port := by
  simp only [State.modServiceOf]
@[simp] theorem State.modServiceOf_answer (m : MoverNo) (f : Station → Station) (g : Link → Link) : (s.modServiceOf m f g).answer = s.answer := by
  simp only [State.modServiceOf]
@[simp] theorem State.modServiceOf_pending (m : MoverNo) (f : Station → Station) (g : Link → Link) : (s.modServiceOf m f g).pending = s.pending := by
  simp only [State.modServiceOf]

/-! ### clearMark -/

@[simp] theorem State.clearMark_now (m : MoverNo) : (s.clearMark m).now = s.now := rfl
@[simp] theorem State.clearMark_resetLow (m : MoverNo) : (s.clearMark m).resetLow = s.resetLow := rfl
@[simp] theorem State.clearMark_tracks (m : MoverNo) : (s.clearMark m).tracks = s.tracks := rfl
@[simp] theorem State.clearMark_serial (m : MoverNo) : (s.clearMark m).serial = s.serial := rfl
@[simp] theorem State.clearMark_runs (m : MoverNo) : (s.clearMark m).runs = s.runs := rfl
@[simp] theorem State.clearMark_movers (m : MoverNo) : (s.clearMark m).movers = s.movers := rfl
@[simp] theorem State.clearMark_arbiter (m : MoverNo) : (s.clearMark m).arbiter = s.arbiter := rfl
@[simp] theorem State.clearMark_stations (m : MoverNo) : (s.clearMark m).stations = s.stations := rfl
@[simp] theorem State.clearMark_proving (m : MoverNo) : (s.clearMark m).proving = s.proving := rfl
@[simp] theorem State.clearMark_toReservation (m : MoverNo) : (s.clearMark m).toReservation = s.toReservation := rfl
@[simp] theorem State.clearMark_toMovers (m : MoverNo) : (s.clearMark m).toMovers = s.toMovers := rfl
@[simp] theorem State.clearMark_wind (m : MoverNo) : (s.clearMark m).wind = s.wind := rfl
@[simp] theorem State.clearMark_inputs (m : MoverNo) : (s.clearMark m).inputs = s.inputs := rfl
@[simp] theorem State.clearMark_openingsMovers (m : MoverNo) : (s.clearMark m).openingsMovers = s.openingsMovers := rfl
@[simp] theorem State.clearMark_openingsFieldLink (m : MoverNo) : (s.clearMark m).openingsFieldLink = s.openingsFieldLink := rfl
@[simp] theorem State.clearMark_alerts (m : MoverNo) : (s.clearMark m).alerts = s.alerts := rfl
@[simp] theorem State.clearMark_port (m : MoverNo) : (s.clearMark m).port = s.port := rfl
@[simp] theorem State.clearMark_answer (m : MoverNo) : (s.clearMark m).answer = s.answer := rfl
@[simp] theorem State.clearMark_pending (m : MoverNo) : (s.clearMark m).pending = s.pending := rfl

/-! ### unqueue -/

@[simp] theorem State.unqueue_now (m : MoverNo) : (s.unqueue m).now = s.now := rfl
@[simp] theorem State.unqueue_resetLow (m : MoverNo) : (s.unqueue m).resetLow = s.resetLow := rfl
@[simp] theorem State.unqueue_tracks (m : MoverNo) : (s.unqueue m).tracks = s.tracks := rfl
@[simp] theorem State.unqueue_serial (m : MoverNo) : (s.unqueue m).serial = s.serial := rfl
@[simp] theorem State.unqueue_runs (m : MoverNo) : (s.unqueue m).runs = s.runs := rfl
@[simp] theorem State.unqueue_movers (m : MoverNo) : (s.unqueue m).movers = s.movers := rfl
@[simp] theorem State.unqueue_stations (m : MoverNo) : (s.unqueue m).stations = s.stations := rfl
@[simp] theorem State.unqueue_link (m : MoverNo) : (s.unqueue m).link = s.link := rfl
@[simp] theorem State.unqueue_proving (m : MoverNo) : (s.unqueue m).proving = s.proving := rfl
@[simp] theorem State.unqueue_toReservation (m : MoverNo) : (s.unqueue m).toReservation = s.toReservation := rfl
@[simp] theorem State.unqueue_toMovers (m : MoverNo) : (s.unqueue m).toMovers = s.toMovers := rfl
@[simp] theorem State.unqueue_wind (m : MoverNo) : (s.unqueue m).wind = s.wind := rfl
@[simp] theorem State.unqueue_inputs (m : MoverNo) : (s.unqueue m).inputs = s.inputs := rfl
@[simp] theorem State.unqueue_openingsMovers (m : MoverNo) : (s.unqueue m).openingsMovers = s.openingsMovers := rfl
@[simp] theorem State.unqueue_openingsFieldLink (m : MoverNo) : (s.unqueue m).openingsFieldLink = s.openingsFieldLink := rfl
@[simp] theorem State.unqueue_alerts (m : MoverNo) : (s.unqueue m).alerts = s.alerts := rfl
@[simp] theorem State.unqueue_port (m : MoverNo) : (s.unqueue m).port = s.port := rfl
@[simp] theorem State.unqueue_answer (m : MoverNo) : (s.unqueue m).answer = s.answer := rfl
@[simp] theorem State.unqueue_pending (m : MoverNo) : (s.unqueue m).pending = s.pending := rfl

/-! ### enterStarting -/

@[simp] theorem State.enterStarting_now (m : MoverNo) : (s.enterStarting m).now = s.now :=
  (State.modStationsOf_now _ m _).trans (State.modMover_now s m _)
@[simp] theorem State.enterStarting_resetLow (m : MoverNo) : (s.enterStarting m).resetLow = s.resetLow :=
  (State.modStationsOf_resetLow _ m _).trans (State.modMover_resetLow s m _)
@[simp] theorem State.enterStarting_tracks (m : MoverNo) : (s.enterStarting m).tracks = s.tracks :=
  (State.modStationsOf_tracks _ m _).trans (State.modMover_tracks s m _)
@[simp] theorem State.enterStarting_serial (m : MoverNo) : (s.enterStarting m).serial = s.serial :=
  (State.modStationsOf_serial _ m _).trans (State.modMover_serial s m _)
@[simp] theorem State.enterStarting_runs (m : MoverNo) : (s.enterStarting m).runs = s.runs :=
  (State.modStationsOf_runs _ m _).trans (State.modMover_runs s m _)
@[simp] theorem State.enterStarting_arbiter (m : MoverNo) : (s.enterStarting m).arbiter = s.arbiter :=
  (State.modStationsOf_arbiter _ m _).trans (State.modMover_arbiter s m _)
@[simp] theorem State.enterStarting_link (m : MoverNo) : (s.enterStarting m).link = s.link :=
  (State.modStationsOf_link _ m _).trans (State.modMover_link s m _)
@[simp] theorem State.enterStarting_proving (m : MoverNo) : (s.enterStarting m).proving = s.proving :=
  (State.modStationsOf_proving _ m _).trans (State.modMover_proving s m _)
@[simp] theorem State.enterStarting_toReservation (m : MoverNo) : (s.enterStarting m).toReservation = s.toReservation :=
  (State.modStationsOf_toReservation _ m _).trans (State.modMover_toReservation s m _)
@[simp] theorem State.enterStarting_toMovers (m : MoverNo) : (s.enterStarting m).toMovers = s.toMovers :=
  (State.modStationsOf_toMovers _ m _).trans (State.modMover_toMovers s m _)
@[simp] theorem State.enterStarting_wind (m : MoverNo) : (s.enterStarting m).wind = s.wind :=
  (State.modStationsOf_wind _ m _).trans (State.modMover_wind s m _)
@[simp] theorem State.enterStarting_inputs (m : MoverNo) : (s.enterStarting m).inputs = s.inputs :=
  (State.modStationsOf_inputs _ m _).trans (State.modMover_inputs s m _)
@[simp] theorem State.enterStarting_openingsMovers (m : MoverNo) : (s.enterStarting m).openingsMovers = s.openingsMovers :=
  (State.modStationsOf_openingsMovers _ m _).trans (State.modMover_openingsMovers s m _)
@[simp] theorem State.enterStarting_openingsFieldLink (m : MoverNo) : (s.enterStarting m).openingsFieldLink = s.openingsFieldLink :=
  (State.modStationsOf_openingsFieldLink _ m _).trans (State.modMover_openingsFieldLink s m _)
@[simp] theorem State.enterStarting_alerts (m : MoverNo) : (s.enterStarting m).alerts = s.alerts :=
  (State.modStationsOf_alerts _ m _).trans (State.modMover_alerts s m _)
@[simp] theorem State.enterStarting_port (m : MoverNo) : (s.enterStarting m).port = s.port :=
  (State.modStationsOf_port _ m _).trans (State.modMover_port s m _)
@[simp] theorem State.enterStarting_answer (m : MoverNo) : (s.enterStarting m).answer = s.answer :=
  (State.modStationsOf_answer _ m _).trans (State.modMover_answer s m _)
@[simp] theorem State.enterStarting_pending (m : MoverNo) : (s.enterStarting m).pending = s.pending :=
  (State.modStationsOf_pending _ m _).trans (State.modMover_pending s m _)

/-! ### completeStep -/

@[simp] theorem State.completeStep_now : (s.completeStep).now = s.now := rfl
@[simp] theorem State.completeStep_resetLow : (s.completeStep).resetLow = s.resetLow := rfl
@[simp] theorem State.completeStep_tracks : (s.completeStep).tracks = s.tracks := rfl
@[simp] theorem State.completeStep_serial : (s.completeStep).serial = s.serial := rfl
@[simp] theorem State.completeStep_runs : (s.completeStep).runs = s.runs := rfl
@[simp] theorem State.completeStep_movers : (s.completeStep).movers = s.movers := rfl
@[simp] theorem State.completeStep_arbiter : (s.completeStep).arbiter = s.arbiter := rfl
@[simp] theorem State.completeStep_stations : (s.completeStep).stations = s.stations := rfl
@[simp] theorem State.completeStep_link : (s.completeStep).link = s.link := rfl
@[simp] theorem State.completeStep_toReservation : (s.completeStep).toReservation = s.toReservation := rfl
@[simp] theorem State.completeStep_toMovers : (s.completeStep).toMovers = s.toMovers := rfl
@[simp] theorem State.completeStep_wind : (s.completeStep).wind = s.wind := rfl
@[simp] theorem State.completeStep_inputs : (s.completeStep).inputs = s.inputs := rfl
@[simp] theorem State.completeStep_openingsMovers : (s.completeStep).openingsMovers = s.openingsMovers := rfl
@[simp] theorem State.completeStep_openingsFieldLink : (s.completeStep).openingsFieldLink = s.openingsFieldLink := rfl
@[simp] theorem State.completeStep_alerts : (s.completeStep).alerts = s.alerts := rfl
@[simp] theorem State.completeStep_port : (s.completeStep).port = s.port := rfl
@[simp] theorem State.completeStep_answer : (s.completeStep).answer = s.answer := rfl
@[simp] theorem State.completeStep_pending : (s.completeStep).pending = s.pending := rfl

/-! ### updateAlerts -/

@[simp] theorem State.updateAlerts_now : (s.updateAlerts).now = s.now := rfl
@[simp] theorem State.updateAlerts_resetLow : (s.updateAlerts).resetLow = s.resetLow := rfl
@[simp] theorem State.updateAlerts_tracks : (s.updateAlerts).tracks = s.tracks := rfl
@[simp] theorem State.updateAlerts_serial : (s.updateAlerts).serial = s.serial := rfl
@[simp] theorem State.updateAlerts_runs : (s.updateAlerts).runs = s.runs := rfl
@[simp] theorem State.updateAlerts_movers : (s.updateAlerts).movers = s.movers := rfl
@[simp] theorem State.updateAlerts_arbiter : (s.updateAlerts).arbiter = s.arbiter := rfl
@[simp] theorem State.updateAlerts_stations : (s.updateAlerts).stations = s.stations := rfl
@[simp] theorem State.updateAlerts_link : (s.updateAlerts).link = s.link := rfl
@[simp] theorem State.updateAlerts_proving : (s.updateAlerts).proving = s.proving := rfl
@[simp] theorem State.updateAlerts_toReservation : (s.updateAlerts).toReservation = s.toReservation := rfl
@[simp] theorem State.updateAlerts_toMovers : (s.updateAlerts).toMovers = s.toMovers := rfl
@[simp] theorem State.updateAlerts_wind : (s.updateAlerts).wind = s.wind := rfl
@[simp] theorem State.updateAlerts_inputs : (s.updateAlerts).inputs = s.inputs := rfl
@[simp] theorem State.updateAlerts_openingsMovers : (s.updateAlerts).openingsMovers = s.openingsMovers := rfl
@[simp] theorem State.updateAlerts_openingsFieldLink : (s.updateAlerts).openingsFieldLink = s.openingsFieldLink := rfl
@[simp] theorem State.updateAlerts_port : (s.updateAlerts).port = s.port := rfl
@[simp] theorem State.updateAlerts_answer : (s.updateAlerts).answer = s.answer := rfl
@[simp] theorem State.updateAlerts_pending : (s.updateAlerts).pending = s.pending := rfl

/-! ### modChannel -/

@[simp] theorem State.modChannel_now (ch : ChannelNo) (f : Channel → Channel) : (s.modChannel ch f).now = s.now := rfl
@[simp] theorem State.modChannel_resetLow (ch : ChannelNo) (f : Channel → Channel) : (s.modChannel ch f).resetLow = s.resetLow := rfl
@[simp] theorem State.modChannel_tracks (ch : ChannelNo) (f : Channel → Channel) : (s.modChannel ch f).tracks = s.tracks := rfl
@[simp] theorem State.modChannel_serial (ch : ChannelNo) (f : Channel → Channel) : (s.modChannel ch f).serial = s.serial := rfl
@[simp] theorem State.modChannel_runs (ch : ChannelNo) (f : Channel → Channel) : (s.modChannel ch f).runs = s.runs := rfl
@[simp] theorem State.modChannel_movers (ch : ChannelNo) (f : Channel → Channel) : (s.modChannel ch f).movers = s.movers := rfl
@[simp] theorem State.modChannel_arbiter (ch : ChannelNo) (f : Channel → Channel) : (s.modChannel ch f).arbiter = s.arbiter := rfl
@[simp] theorem State.modChannel_stations (ch : ChannelNo) (f : Channel → Channel) : (s.modChannel ch f).stations = s.stations := rfl
@[simp] theorem State.modChannel_link (ch : ChannelNo) (f : Channel → Channel) : (s.modChannel ch f).link = s.link := rfl
@[simp] theorem State.modChannel_proving (ch : ChannelNo) (f : Channel → Channel) : (s.modChannel ch f).proving = s.proving := rfl
@[simp] theorem State.modChannel_toReservation (ch : ChannelNo) (f : Channel → Channel) : (s.modChannel ch f).toReservation = s.toReservation := rfl
@[simp] theorem State.modChannel_toMovers (ch : ChannelNo) (f : Channel → Channel) : (s.modChannel ch f).toMovers = s.toMovers := rfl
@[simp] theorem State.modChannel_inputs (ch : ChannelNo) (f : Channel → Channel) : (s.modChannel ch f).inputs = s.inputs := rfl
@[simp] theorem State.modChannel_openingsMovers (ch : ChannelNo) (f : Channel → Channel) : (s.modChannel ch f).openingsMovers = s.openingsMovers := rfl
@[simp] theorem State.modChannel_openingsFieldLink (ch : ChannelNo) (f : Channel → Channel) : (s.modChannel ch f).openingsFieldLink = s.openingsFieldLink := rfl
@[simp] theorem State.modChannel_alerts (ch : ChannelNo) (f : Channel → Channel) : (s.modChannel ch f).alerts = s.alerts := rfl
@[simp] theorem State.modChannel_port (ch : ChannelNo) (f : Channel → Channel) : (s.modChannel ch f).port = s.port := rfl
@[simp] theorem State.modChannel_answer (ch : ChannelNo) (f : Channel → Channel) : (s.modChannel ch f).answer = s.answer := rfl
@[simp] theorem State.modChannel_pending (ch : ChannelNo) (f : Channel → Channel) : (s.modChannel ch f).pending = s.pending := rfl

/-! ### endLine -/

@[simp] theorem State.endLine_now : (s.endLine).now = s.now := rfl
@[simp] theorem State.endLine_resetLow : (s.endLine).resetLow = s.resetLow := rfl
@[simp] theorem State.endLine_tracks : (s.endLine).tracks = s.tracks := rfl
@[simp] theorem State.endLine_serial : (s.endLine).serial = s.serial := rfl
@[simp] theorem State.endLine_runs : (s.endLine).runs = s.runs := rfl
@[simp] theorem State.endLine_movers : (s.endLine).movers = s.movers := rfl
@[simp] theorem State.endLine_arbiter : (s.endLine).arbiter = s.arbiter := rfl
@[simp] theorem State.endLine_stations : (s.endLine).stations = s.stations := rfl
@[simp] theorem State.endLine_proving : (s.endLine).proving = s.proving := rfl
@[simp] theorem State.endLine_toReservation : (s.endLine).toReservation = s.toReservation := rfl
@[simp] theorem State.endLine_toMovers : (s.endLine).toMovers = s.toMovers := rfl
@[simp] theorem State.endLine_wind : (s.endLine).wind = s.wind := rfl
@[simp] theorem State.endLine_inputs : (s.endLine).inputs = s.inputs := rfl
@[simp] theorem State.endLine_openingsMovers : (s.endLine).openingsMovers = s.openingsMovers := rfl
@[simp] theorem State.endLine_openingsFieldLink : (s.endLine).openingsFieldLink = s.openingsFieldLink := rfl
@[simp] theorem State.endLine_alerts : (s.endLine).alerts = s.alerts := rfl
@[simp] theorem State.endLine_port : (s.endLine).port = s.port := rfl
@[simp] theorem State.endLine_answer : (s.endLine).answer = s.answer := rfl
@[simp] theorem State.endLine_pending : (s.endLine).pending = s.pending := rfl

/-! ### hunt -/

@[simp] theorem State.hunt_now : (s.hunt).now = s.now := rfl
@[simp] theorem State.hunt_resetLow : (s.hunt).resetLow = s.resetLow := rfl
@[simp] theorem State.hunt_tracks : (s.hunt).tracks = s.tracks := rfl
@[simp] theorem State.hunt_serial : (s.hunt).serial = s.serial := rfl
@[simp] theorem State.hunt_runs : (s.hunt).runs = s.runs := rfl
@[simp] theorem State.hunt_movers : (s.hunt).movers = s.movers := rfl
@[simp] theorem State.hunt_arbiter : (s.hunt).arbiter = s.arbiter := rfl
@[simp] theorem State.hunt_stations : (s.hunt).stations = s.stations := rfl
@[simp] theorem State.hunt_link : (s.hunt).link = s.link := rfl
@[simp] theorem State.hunt_proving : (s.hunt).proving = s.proving := rfl
@[simp] theorem State.hunt_toReservation : (s.hunt).toReservation = s.toReservation := rfl
@[simp] theorem State.hunt_toMovers : (s.hunt).toMovers = s.toMovers := rfl
@[simp] theorem State.hunt_wind : (s.hunt).wind = s.wind := rfl
@[simp] theorem State.hunt_inputs : (s.hunt).inputs = s.inputs := rfl
@[simp] theorem State.hunt_openingsMovers : (s.hunt).openingsMovers = s.openingsMovers := rfl
@[simp] theorem State.hunt_openingsFieldLink : (s.hunt).openingsFieldLink = s.openingsFieldLink := rfl
@[simp] theorem State.hunt_alerts : (s.hunt).alerts = s.alerts := rfl
@[simp] theorem State.hunt_answer : (s.hunt).answer = s.answer := rfl
@[simp] theorem State.hunt_pending : (s.hunt).pending = s.pending := rfl

/-! ### The accessors after an update -/

theorem State.mover_modMover (m n : MoverNo) (f : Mover → Mover) :
    (s.modMover m f).mover n = if n = m then f (s.mover m) else s.mover n := by
  simp [State.mover, State.modMover, tget_tset]

@[simp] theorem State.mover_modMover_self (m : MoverNo) (f : Mover → Mover) :
    (s.modMover m f).mover m = f (s.mover m) := by
  simp [State.mover_modMover]

theorem State.station_modStation (a b : StationNo) (f : Station → Station) :
    (s.modStation a f).station b = if b = a then f (s.station a) else s.station b := by
  simp [State.station, State.modStation, tget_tset]

@[simp] theorem State.station_modStation_self (a : StationNo) (f : Station → Station) :
    (s.modStation a f).station a = f (s.station a) := by
  simp [State.station_modStation]

@[simp] theorem State.station_modStationsOf (m : MoverNo) (f : Station → Station) (a : StationNo) :
    (s.modStationsOf m f).station a = if (s.station a).serves m = true then f (s.station a) else s.station a := by
  simp only [State.station, State.modStationsOf, tget_tmap]
  rfl

@[simp] theorem State.station_standAll (m : MoverNo) (c : Command) (u : Bool) (a : StationNo) :
    (s.standAll m c u).station a =
      if (s.station a).serves m = true then { s.station a with standing := some c, urgent := u } else s.station a := by
  simp [State.standAll, Station.stand]

theorem State.linkOf_modLink (a b : StationNo) (f : Link → Link) :
    (s.modLink a f).linkOf b = if b = a then f (s.linkOf a) else s.linkOf b := by
  simp [State.linkOf, State.modLink, tget_tset]

@[simp] theorem State.linkOf_modLink_self (a : StationNo) (f : Link → Link) :
    (s.modLink a f).linkOf a = f (s.linkOf a) := by
  simp [State.linkOf_modLink]

theorem State.run_setRun (m n : MoverNo) (r : Option Run) :
    (s.setRun m r).run n = if n = m then r else s.run n := by
  simp [State.run, State.setRun, tget_tset]

theorem State.track_setTrack (k l : TrackNo) (t : Option Track) :
    (s.setTrack k t).track l = if l = k then t else s.track l := by
  simp [State.track, State.setTrack, tget_tset]

@[simp] theorem State.station_modMover (m : MoverNo) (f : Mover → Mover) (b : StationNo) : (s.modMover m f).station b = s.station b := rfl
@[simp] theorem State.run_modMover (m : MoverNo) (f : Mover → Mover) (n : MoverNo) : (s.modMover m f).run n = s.run n := rfl
@[simp] theorem State.track_modMover (m : MoverNo) (f : Mover → Mover) (l : TrackNo) : (s.modMover m f).track l = s.track l := rfl
@[simp] theorem State.linkOf_modMover (m : MoverNo) (f : Mover → Mover) (b : StationNo) : (s.modMover m f).linkOf b = s.linkOf b := rfl
@[simp] theorem State.mover_modStation (a : StationNo) (f : Station → Station) (n : MoverNo) : (s.modStation a f).mover n = s.mover n := rfl
@[simp] theorem State.run_modStation (a : StationNo) (f : Station → Station) (n : MoverNo) : (s.modStation a f).run n = s.run n := rfl
@[simp] theorem State.track_modStation (a : StationNo) (f : Station → Station) (l : TrackNo) : (s.modStation a f).track l = s.track l := rfl
@[simp] theorem State.linkOf_modStation (a : StationNo) (f : Station → Station) (b : StationNo) : (s.modStation a f).linkOf b = s.linkOf b := rfl
@[simp] theorem State.mover_modStationsOf (m : MoverNo) (f : Station → Station) (n : MoverNo) : (s.modStationsOf m f).mover n = s.mover n := by
  simp only [State.mover, State.modStationsOf]
@[simp] theorem State.run_modStationsOf (m : MoverNo) (f : Station → Station) (n : MoverNo) : (s.modStationsOf m f).run n = s.run n := by
  simp only [State.run, State.modStationsOf]
@[simp] theorem State.track_modStationsOf (m : MoverNo) (f : Station → Station) (l : TrackNo) : (s.modStationsOf m f).track l = s.track l := by
  simp only [State.track, State.modStationsOf]
@[simp] theorem State.linkOf_modStationsOf (m : MoverNo) (f : Station → Station) (b : StationNo) : (s.modStationsOf m f).linkOf b = s.linkOf b := by
  simp only [State.linkOf, State.modStationsOf]
@[simp] theorem State.mover_standAll (m : MoverNo) (c : Command) (u : Bool) (n : MoverNo) : (s.standAll m c u).mover n = s.mover n :=
  State.mover_modStationsOf s m _ n
@[simp] theorem State.run_standAll (m : MoverNo) (c : Command) (u : Bool) (n : MoverNo) : (s.standAll m c u).run n = s.run n :=
  State.run_modStationsOf s m _ n
@[simp] theorem State.track_standAll (m : MoverNo) (c : Command) (u : Bool) (l : TrackNo) : (s.standAll m c u).track l = s.track l :=
  State.track_modStationsOf s m _ l
@[simp] theorem State.linkOf_standAll (m : MoverNo) (c : Command) (u : Bool) (b : StationNo) : (s.standAll m c u).linkOf b = s.linkOf b :=
  State.linkOf_modStationsOf s m _ b
@[simp] theorem State.mover_modLink (a : StationNo) (f : Link → Link) (n : MoverNo) : (s.modLink a f).mover n = s.mover n := rfl
@[simp] theorem State.station_modLink (a : StationNo) (f : Link → Link) (b : StationNo) : (s.modLink a f).station b = s.station b := rfl
@[simp] theorem State.run_modLink (a : StationNo) (f : Link → Link) (n : MoverNo) : (s.modLink a f).run n = s.run n := rfl
@[simp] theorem State.track_modLink (a : StationNo) (f : Link → Link) (l : TrackNo) : (s.modLink a f).track l = s.track l := rfl
@[simp] theorem State.mover_setTrack (k : TrackNo) (t : Option Track) (n : MoverNo) : (s.setTrack k t).mover n = s.mover n := rfl
@[simp] theorem State.station_setTrack (k : TrackNo) (t : Option Track) (b : StationNo) : (s.setTrack k t).station b = s.station b := rfl
@[simp] theorem State.run_setTrack (k : TrackNo) (t : Option Track) (n : MoverNo) : (s.setTrack k t).run n = s.run n := rfl
@[simp] theorem State.linkOf_setTrack (k : TrackNo) (t : Option Track) (b : StationNo) : (s.setTrack k t).linkOf b = s.linkOf b := rfl
@[simp] theorem State.mover_setRun (m : MoverNo) (r : Option Run) (n : MoverNo) : (s.setRun m r).mover n = s.mover n := rfl
@[simp] theorem State.station_setRun (m : MoverNo) (r : Option Run) (b : StationNo) : (s.setRun m r).station b = s.station b := rfl
@[simp] theorem State.track_setRun (m : MoverNo) (r : Option Run) (l : TrackNo) : (s.setRun m r).track l = s.track l := rfl
@[simp] theorem State.linkOf_setRun (m : MoverNo) (r : Option Run) (b : StationNo) : (s.setRun m r).linkOf b = s.linkOf b := rfl
@[simp] theorem State.mover_reply (c : Byte) (st : Status) (items : List Item) (n : MoverNo) : (s.reply c st items).mover n = s.mover n := rfl
@[simp] theorem State.station_reply (c : Byte) (st : Status) (items : List Item) (b : StationNo) : (s.reply c st items).station b = s.station b := rfl
@[simp] theorem State.run_reply (c : Byte) (st : Status) (items : List Item) (n : MoverNo) : (s.reply c st items).run n = s.run n := rfl
@[simp] theorem State.track_reply (c : Byte) (st : Status) (items : List Item) (l : TrackNo) : (s.reply c st items).track l = s.track l := rfl
@[simp] theorem State.linkOf_reply (c : Byte) (st : Status) (items : List Item) (b : StationNo) : (s.reply c st items).linkOf b = s.linkOf b := rfl
@[simp] theorem State.mover_modServiceOf (m : MoverNo) (f : Station → Station) (g : Link → Link) (n : MoverNo) : (s.modServiceOf m f g).mover n = s.mover n := by
  simp only [State.mover, State.modServiceOf]
@[simp] theorem State.run_modServiceOf (m : MoverNo) (f : Station → Station) (g : Link → Link) (n : MoverNo) : (s.modServiceOf m f g).run n = s.run n := by
  simp only [State.run, State.modServiceOf]
@[simp] theorem State.track_modServiceOf (m : MoverNo) (f : Station → Station) (g : Link → Link) (l : TrackNo) : (s.modServiceOf m f g).track l = s.track l := by
  simp only [State.track, State.modServiceOf]
@[simp] theorem State.mover_clearMark (m : MoverNo) (n : MoverNo) : (s.clearMark m).mover n = s.mover n := rfl
@[simp] theorem State.station_clearMark (m : MoverNo) (b : StationNo) : (s.clearMark m).station b = s.station b := rfl
@[simp] theorem State.run_clearMark (m : MoverNo) (n : MoverNo) : (s.clearMark m).run n = s.run n := rfl
@[simp] theorem State.track_clearMark (m : MoverNo) (l : TrackNo) : (s.clearMark m).track l = s.track l := rfl
@[simp] theorem State.mover_unqueue (m : MoverNo) (n : MoverNo) : (s.unqueue m).mover n = s.mover n := rfl
@[simp] theorem State.station_unqueue (m : MoverNo) (b : StationNo) : (s.unqueue m).station b = s.station b := rfl
@[simp] theorem State.run_unqueue (m : MoverNo) (n : MoverNo) : (s.unqueue m).run n = s.run n := rfl
@[simp] theorem State.track_unqueue (m : MoverNo) (l : TrackNo) : (s.unqueue m).track l = s.track l := rfl
@[simp] theorem State.linkOf_unqueue (m : MoverNo) (b : StationNo) : (s.unqueue m).linkOf b = s.linkOf b := rfl
@[simp] theorem State.run_enterStarting (m : MoverNo) (n : MoverNo) : (s.enterStarting m).run n = s.run n :=
  (State.run_modStationsOf _ m _ n).trans (State.run_modMover s m _ n)
@[simp] theorem State.track_enterStarting (m : MoverNo) (l : TrackNo) : (s.enterStarting m).track l = s.track l :=
  (State.track_modStationsOf _ m _ l).trans (State.track_modMover s m _ l)
@[simp] theorem State.linkOf_enterStarting (m : MoverNo) (b : StationNo) : (s.enterStarting m).linkOf b = s.linkOf b :=
  (State.linkOf_modStationsOf _ m _ b).trans (State.linkOf_modMover s m _ b)
@[simp] theorem State.mover_completeStep (n : MoverNo) : (s.completeStep).mover n = s.mover n := rfl
@[simp] theorem State.station_completeStep (b : StationNo) : (s.completeStep).station b = s.station b := rfl
@[simp] theorem State.run_completeStep (n : MoverNo) : (s.completeStep).run n = s.run n := rfl
@[simp] theorem State.track_completeStep (l : TrackNo) : (s.completeStep).track l = s.track l := rfl
@[simp] theorem State.linkOf_completeStep (b : StationNo) : (s.completeStep).linkOf b = s.linkOf b := rfl
@[simp] theorem State.mover_updateAlerts (n : MoverNo) : (s.updateAlerts).mover n = s.mover n := rfl
@[simp] theorem State.station_updateAlerts (b : StationNo) : (s.updateAlerts).station b = s.station b := rfl
@[simp] theorem State.run_updateAlerts (n : MoverNo) : (s.updateAlerts).run n = s.run n := rfl
@[simp] theorem State.track_updateAlerts (l : TrackNo) : (s.updateAlerts).track l = s.track l := rfl
@[simp] theorem State.linkOf_updateAlerts (b : StationNo) : (s.updateAlerts).linkOf b = s.linkOf b := rfl
@[simp] theorem State.mover_modChannel (ch : ChannelNo) (f : Channel → Channel) (n : MoverNo) : (s.modChannel ch f).mover n = s.mover n := rfl
@[simp] theorem State.station_modChannel (ch : ChannelNo) (f : Channel → Channel) (b : StationNo) : (s.modChannel ch f).station b = s.station b := rfl
@[simp] theorem State.run_modChannel (ch : ChannelNo) (f : Channel → Channel) (n : MoverNo) : (s.modChannel ch f).run n = s.run n := rfl
@[simp] theorem State.track_modChannel (ch : ChannelNo) (f : Channel → Channel) (l : TrackNo) : (s.modChannel ch f).track l = s.track l := rfl
@[simp] theorem State.linkOf_modChannel (ch : ChannelNo) (f : Channel → Channel) (b : StationNo) : (s.modChannel ch f).linkOf b = s.linkOf b := rfl
@[simp] theorem State.mover_endLine (n : MoverNo) : (s.endLine).mover n = s.mover n := rfl
@[simp] theorem State.station_endLine (b : StationNo) : (s.endLine).station b = s.station b := rfl
@[simp] theorem State.run_endLine (n : MoverNo) : (s.endLine).run n = s.run n := rfl
@[simp] theorem State.track_endLine (l : TrackNo) : (s.endLine).track l = s.track l := rfl
@[simp] theorem State.mover_hunt (n : MoverNo) : (s.hunt).mover n = s.mover n := rfl
@[simp] theorem State.station_hunt (b : StationNo) : (s.hunt).station b = s.station b := rfl
@[simp] theorem State.run_hunt (n : MoverNo) : (s.hunt).run n = s.run n := rfl
@[simp] theorem State.track_hunt (l : TrackNo) : (s.hunt).track l = s.track l := rfl
@[simp] theorem State.linkOf_hunt (b : StationNo) : (s.hunt).linkOf b = s.linkOf b := rfl

/-! ### Who serves whom -/

@[simp] theorem Station.serves_stand (c : Command) (u : Bool) (st : Station) (m : MoverNo) :
    (Station.stand c u st).serves m = st.serves m := rfl

@[simp] theorem Station.serves_toActive (st : Station) (m : MoverNo) : st.toActive.serves m = st.serves m := rfl

@[simp] theorem Station.serves_toDormant (st : Station) (m : MoverNo) : st.toDormant.serves m = st.serves m := rfl

/-- An update of records that keeps every assignment keeps every mover's list of stations. -/
theorem State.stationsOf_congr {s t : State} (h : ∀ a, (t.station a).assign = (s.station a).assign) (m : MoverNo) :
    t.stationsOf m = s.stationsOf m := by
  simp [State.stationsOf, Station.serves, h]

/-- An update of records that keeps every assignment keeps every mover's LEAD station. -/
theorem State.leadOf_congr {s t : State} (h : ∀ a, (t.station a).assign = (s.station a).assign) (m : MoverNo) :
    t.leadOf m = s.leadOf m := by
  simp [State.leadOf, State.stationsOf_congr h, Station.role, h]

/-! ### Memoryless readings -/

@[simp] theorem Mover.leave_config (x : Mover) : x.leave.config = x.config := rfl

@[simp] theorem Mover.leave_reference (x : Mover) : x.leave.reference = x.reference := rfl

@[simp] theorem Mover.leave_dir (x : Mover) : x.leave.dir = x.dir := rfl

@[simp] theorem Mover.leave_leave (x : Mover) : x.leave.leave = x.leave := rfl

end Sys2Proof.Machine
end

