-- ==== Sys2Proof/Laws/Ops.lean ====
section
/-!
SUPPORT. One lemma per shared operation that says once what it can do: the cases of an entry or a decision, and the fields an
operation can change. Later proofs cite these in place of unfolding the operation.
-/

namespace Sys2Proof.Machine

open Sys2Proof

/-! ### How an event reaches the part -/

/-- An event while the reset input is high takes its effect. -/
theorem State.whileRunning_running {s : State} (h : s.resetLow = false) (f : State → State) :
    s.whileRunning f = .next (f s) := by
  simp [State.whileRunning, h]

/-- An event while the reset input is low does nothing. -/
theorem State.whileRunning_held {s : State} (h : s.resetLow = true) (f : State → State) :
    s.whileRunning f = .next s := by
  simp [State.whileRunning, h]

/-- An event always has a next state. -/
theorem State.whileRunning_next (s : State) (f : State → State) : ∃ t, s.whileRunning f = .next t :=
  ⟨_, rfl⟩

/-- The expiry of a timer acts in its state and at its time, and otherwise does nothing. -/
theorem State.onExpiry_cases (s : State) (m : MoverNo) (st : MState) (timer : Option Time) (f : State → State) :
    ((s.mover m).state = st ∧ expired s.now timer = true ∧ s.onExpiry m st timer f = (f s).updateAlerts) ∨
      (((s.mover m).state ≠ st ∨ expired s.now timer = false) ∧ s.onExpiry m st timer f = s) := by
  unfold State.onExpiry
  split
  · next h => exact .inl ⟨h.1, h.2, rfl⟩
  · next h =>
    refine .inr ⟨?_, rfl⟩
    by_cases hs : (s.mover m).state = st
    · exact .inr (by simpa using fun he => h ⟨hs, he⟩)
    · exact .inl hs

/-! ### Entries -/

/-- Entry to FAULTED: the record, the HOLD and the Arbiter for a mover in service, nothing for any other (R59, R65). -/
theorem State.enterFaulted_cases (s : State) (m : MoverNo) (code : FaultCode) :
    ((s.mover m).state.inService = true ∧
        s.enterFaulted m code =
          ((s.modMover m (Mover.toFaulted code)).standAll m .hold true).departed m (s.mover m).state) ∨
      ((s.mover m).state.inService = false ∧ s.enterFaulted m code = s) := by
  unfold State.enterFaulted
  split
  · next h => exact .inl ⟨h, rfl⟩
  · next h => exact .inr ⟨by simpa using h, rfl⟩

/-- What the Arbiter is told: a queue entry removed, a count lowered with admission, or nothing (R42). -/
theorem State.departed_cases (s : State) (m : MoverNo) (old : MState) :
    (old = .queued ∧ s.departed m old = s.unqueue m) ∨
      (old.counting = true ∧ s.departed m old = s.leaveCounting) ∨
      (old ≠ .queued ∧ old.counting = false ∧ s.departed m old = s) := by
  cases old <;> simp [State.departed, MState.counting]

/-- An admission request is decided at once: into STARTING, or to the tail of the queue (R72). -/
theorem State.requestAdmission_cases (s : State) (m : MoverNo) :
    (s.arbiter.count < s.arbiter.limit ∧ s.arbiter.queue = [] ∧
        s.requestAdmission m =
          State.enterStarting { s with arbiter := { s.arbiter with count := s.arbiter.count + 1 } } m) ∨
      ((s.arbiter.limit ≤ s.arbiter.count ∨ s.arbiter.queue ≠ []) ∧
        s.requestAdmission m =
          (State.modMover
            { s with arbiter := { s.arbiter with queue := s.arbiter.queue ++ [{ mover := m, since := s.now }] } } m
            Mover.toQueued).standAll m .hold false) := by
  unfold State.requestAdmission
  split
  · next h => exact .inl ⟨h.1, h.2, rfl⟩
  · next h =>
    refine .inr ⟨?_, rfl⟩
    by_cases hc : s.arbiter.count < s.arbiter.limit
    · exact .inr fun hq => h ⟨hc, hq⟩
    · exact .inl (Nat.le_of_not_lt hc)

/-- Entry to STOPPING: BRAKING at once when the lead is at rest, RUNDOWN otherwise (R57). -/
theorem State.enterStopping_cases (s : State) (m : MoverNo) (reason : StopReason) :
    let s1 := (s.modMover m (Mover.toStopping s.now reason)).standAll m driveZero false
    (s1.leadAtRest m = true ∧ s.enterStopping m reason = s1.enterBraking m) ∨
      (s1.leadAtRest m = false ∧ s.enterStopping m reason = s1) := by
  intro s1
  by_cases h : s1.leadAtRest m = true
  · exact .inl ⟨h, by unfold State.enterStopping; exact if_pos h⟩
  · exact .inr ⟨by simpa using h, by unfold State.enterStopping; exact if_neg h⟩

/-- A counting mover stays counting, and a mover in service stays in service, by the states' own table (R69). -/
theorem MState.counting_inService {st : MState} (h : st.counting = true) : st.inService = true ∧ st.holding = true := by
  cases st <;> simp_all [MState.counting, MState.inService, MState.holding]

/-! ### Admission -/

/-- An empty queue admits no one (R74). -/
theorem State.admitQueue_nil {s : State} (h : s.arbiter.queue = []) : s.admitQueue = s := by
  unfold State.admitQueue
  rw [h]
  unfold admitFrom
  have : { s.arbiter with queue := [] } = s.arbiter := by rw [← h]
  rw [this]

/-- At the limit no one is admitted (R74). -/
theorem State.admitQueue_full {s : State} (h : s.arbiter.limit ≤ s.arbiter.count) : s.admitQueue = s := by
  by_cases hq : s.arbiter.queue = []
  · exact State.admitQueue_nil hq
  · obtain ⟨e, rest, he⟩ := List.exists_cons_of_ne_nil hq
    unfold State.admitQueue
    rw [he]
    unfold admitFrom
    rw [if_neg (by omega), ← he]

/-- Below the limit the head is admitted, and the rest is looked at again (R74). -/
theorem State.admitQueue_head {s : State} {e : QueueEntry} {rest : List QueueEntry} (hq : s.arbiter.queue = e :: rest)
    (h : s.arbiter.count < s.arbiter.limit) :
    s.admitQueue =
      State.admitQueue
        (State.enterStarting
          { s with arbiter := { s.arbiter with count := s.arbiter.count + 1, queue := rest } } e.mover) := by
  unfold State.admitQueue
  rw [hq, admitFrom, if_pos h]
  simp

/-! ### What the shared operations never touch -/

/-- The parts of the state that no operation on movers, stations, link or sweep touches. -/
structure State.SameOutside (s t : State) : Prop where
  now : t.now = s.now
  resetLow : t.resetLow = s.resetLow
  serial : t.serial = s.serial
  wind : t.wind = s.wind
  inputs : t.inputs = s.inputs
  openingsMovers : t.openingsMovers = s.openingsMovers
  openingsFieldLink : t.openingsFieldLink = s.openingsFieldLink
  port : t.port = s.port
  pending : t.pending = s.pending

theorem State.SameOutside.rfl' (s : State) : s.SameOutside s := by constructor <;> rfl

theorem State.SameOutside.trans {s t u : State} (h : s.SameOutside t) (g : t.SameOutside u) : s.SameOutside u := by
  constructor
  · exact g.now.trans h.now
  · exact g.resetLow.trans h.resetLow
  · exact g.serial.trans h.serial
  · exact g.wind.trans h.wind
  · exact g.inputs.trans h.inputs
  · exact g.openingsMovers.trans h.openingsMovers
  · exact g.openingsFieldLink.trans h.openingsFieldLink
  · exact g.port.trans h.port
  · exact g.pending.trans h.pending

/-- A fold of operations of which each leaves the outside alone leaves it alone. -/
theorem State.SameOutside.foldl {α : Type} {f : State → α → State}
    (h : ∀ (s : State) x, s.SameOutside (f s x)) (xs : List α) (s : State) : s.SameOutside (xs.foldl f s) := by
  induction xs generalizing s with
  | nil => exact .rfl' s
  | cons x xs ih => exact (h s x).trans (ih _)

theorem State.modMover_outside (s : State) (m : MoverNo) (f : Mover → Mover) : s.SameOutside (s.modMover m f) := by
  constructor <;> simp

theorem State.modStation_outside (s : State) (a : StationNo) (f : Station → Station) :
    s.SameOutside (s.modStation a f) := by
  constructor <;> simp

theorem State.modStationsOf_outside (s : State) (m : MoverNo) (f : Station → Station) :
    s.SameOutside (s.modStationsOf m f) := by
  constructor <;> simp

theorem State.standAll_outside (s : State) (m : MoverNo) (c : Command) (u : Bool) :
    s.SameOutside (s.standAll m c u) := by
  constructor <;> simp

theorem State.modLink_outside (s : State) (a : StationNo) (f : Link → Link) : s.SameOutside (s.modLink a f) := by
  constructor <;> simp

theorem State.enterStarting_outside (s : State) (m : MoverNo) : s.SameOutside (s.enterStarting m) := by
  constructor <;> simp

theorem State.updateAlerts_outside (s : State) : s.SameOutside s.updateAlerts := by constructor <;> simp

theorem State.reply_outside (s : State) (c : Byte) (st : Status) (items : List Item) :
    s.SameOutside (s.reply c st items) := by
  constructor <;> simp

theorem State.setTrack_outside (s : State) (k : TrackNo) (t : Option Track) : s.SameOutside (s.setTrack k t) := by
  constructor <;> simp

theorem State.setRun_outside (s : State) (m : MoverNo) (r : Option Run) : s.SameOutside (s.setRun m r) := by
  constructor <;> simp

/-- Admission changes movers, stations and the Arbiter alone. -/
theorem admitFrom_outside (queue : List QueueEntry) (s : State) : s.SameOutside (admitFrom queue s) := by
  induction queue generalizing s with
  | nil => exact ⟨rfl, rfl, rfl, rfl, rfl, rfl, rfl, rfl, rfl⟩
  | cons e rest ih =>
    unfold admitFrom
    split
    · exact State.SameOutside.trans
        (State.SameOutside.trans (by constructor <;> rfl) (State.enterStarting_outside _ _)) (ih _)
    · exact ⟨rfl, rfl, rfl, rfl, rfl, rfl, rfl, rfl, rfl⟩

theorem State.leaveCounting_outside (s : State) : s.SameOutside s.leaveCounting :=
  State.SameOutside.trans (by constructor <;> rfl) (admitFrom_outside _ _)

theorem State.departed_outside (s : State) (m : MoverNo) (old : MState) : s.SameOutside (s.departed m old) := by
  rcases s.departed_cases m old with ⟨-, h⟩ | ⟨-, h⟩ | ⟨-, -, h⟩ <;> rw [h]
  · constructor <;> simp
  · exact s.leaveCounting_outside
  · exact .rfl' s

theorem State.enterFaulted_outside (s : State) (m : MoverNo) (code : FaultCode) :
    s.SameOutside (s.enterFaulted m code) := by
  rcases s.enterFaulted_cases m code with ⟨-, h⟩ | ⟨-, h⟩ <;> rw [h]
  · exact ((s.modMover_outside m _).trans (State.standAll_outside _ _ _ _)).trans (State.departed_outside _ _ _)
  · exact .rfl' s

theorem State.enterStopping_outside (s : State) (m : MoverNo) (reason : StopReason) :
    s.SameOutside (s.enterStopping m reason) := by
  have h0 := (s.modMover_outside m (Mover.toStopping s.now reason)).trans (State.standAll_outside _ m driveZero false)
  rcases s.enterStopping_cases m reason with ⟨-, h⟩ | ⟨-, h⟩ <;> rw [h]
  · exact h0.trans ((State.modMover_outside _ m _).trans (State.standAll_outside _ _ _ _))
  · exact h0

theorem State.parkWith_outside (s : State) (m : MoverNo) (reason : StopReason) :
    s.SameOutside (s.parkWith m reason) :=
  ((s.modMover_outside m _).trans (State.standAll_outside _ _ _ _)).trans (State.departed_outside _ _ _)

theorem State.stopMover_outside (s : State) (m : MoverNo) : s.SameOutside (s.stopMover m) := by
  unfold State.stopMover
  split
  · exact s.enterStopping_outside m _
  · exact s.enterStopping_outside m _
  · exact s.parkWith_outside m _
  · exact s.parkWith_outside m _
  · exact .rfl' s

theorem State.evaluate_outside (s : State) (k : TrackNo) (t : Track) (p : Nat) (g : Seg) :
    s.SameOutside (s.evaluate k t p g) := by
  unfold State.evaluate
  dsimp only
  split <;> constructor <;> rfl

theorem State.noticeEnded_outside (s : State) (a : StationNo) : s.SameOutside (s.noticeEnded a) := by
  have hc : ∀ t : State, t.SameOutside t.completeStep := fun t => by constructor <;> rfl
  unfold State.noticeEnded
  split
  · split
    · unfold State.completePending
      split
      · split
        · split
          · exact (s.evaluate_outside _ _ _ _).trans (hc _)
          · exact hc s
        · exact hc s
      · exact hc s
    · exact .rfl' s
  · exact .rfl' s

theorem State.giveNotices_outside (s : State) (dropped : List StationNo) : s.SameOutside (s.giveNotices dropped) :=
  .foldl (fun s a => s.noticeEnded_outside a) dropped s

theorem State.enterLockedOut_outside (s : State) (m : MoverNo) (result : Option EnrolResult) :
    s.SameOutside (s.enterLockedOut m result) := by
  constructor <;> simp [State.enterLockedOut]

theorem State.lockOut_outside (s : State) (m : MoverNo) (result : Option EnrolResult) :
    s.SameOutside (s.lockOut m result) :=
  (s.enterLockedOut_outside m result).trans (State.giveNotices_outside _ _)

theorem State.stationFailure_outside (s : State) (m : MoverNo) (code : FaultCode) :
    s.SameOutside (s.stationFailure m code) := by
  unfold State.stationFailure
  split
  · exact s.lockOut_outside m _
  · exact s.enterFaulted_outside m _

/-- A fault told to a mover that is not in service, nor enrolling, changes nothing (R65). -/
theorem State.stationFailure_idle {s : State} {m : MoverNo} (h : (s.mover m).state.inService = false)
    (he : (s.mover m).state ≠ .enrolling) (code : FaultCode) : s.stationFailure m code = s := by
  simp [State.stationFailure, he, State.enterFaulted, h]

/-! ### The alert flags -/

/-- After an update every active flag equals its condition (R167). -/
theorem State.updateAlerts_active (s : State) (n : AlertName) :
    (s.updateAlerts.alerts.get n).active = s.condition n := by
  cases n <;> rfl

/-- An update changes no condition. -/
@[simp] theorem State.condition_updateAlerts (s : State) (n : AlertName) : s.updateAlerts.condition n = s.condition n := by
  cases n <;> rfl

/-- An update clears no latched flag (R168). -/
theorem State.updateAlerts_latched (s : State) (n : AlertName) (h : (s.alerts.get n).latched = true) :
    (s.updateAlerts.alerts.get n).latched = true := by
  cases n <;> simp_all [State.updateAlerts, Alerts.mapFlags, Alerts.get, AlertFlags.follow]

/-- What an event does to the alerts, once its other effects are made and have left them as they were (R167, R168). -/
theorem State.updateAlerts_told {s u : State} (h : u.alerts = s.alerts) : s.AlertsTold u.updateAlerts := by
  intro n
  rw [u.condition_updateAlerts n, ← h]
  cases n <;> rfl

/-- Alerts told of the conditions follow them (R167). -/
theorem State.AlertsTold.follow {s t : State} (h : s.AlertsTold t) : t.AlertsFollow := fun n => by rw [h n]

/-- Alerts told of the conditions are latched that were latched before or have risen, and no others (R168). -/
theorem State.AlertsTold.latched {s t : State} (h : s.AlertsTold t) (n : AlertName) :
    (t.alerts.get n).latched = true ↔
      (s.alerts.get n).latched = true ∨ (s.alerts.get n).active = false ∧ (t.alerts.get n).active = true := by
  rw [h n]
  simp [and_comm]

/-! ### The transaction-ended notice -/

/-- An evaluation reads no alert and changes none (R107 to R110). -/
theorem State.evaluate_alerts (s : State) (al : Alerts) (k : TrackNo) (t : Track) (p : Nat) (g : Seg) :
    State.evaluate { s with alerts := al } k t p g = { s.evaluate k t p g with alerts := al } := by
  have ho : State.occupiers { s with alerts := al } k t p = s.occupiers k t p := rfl
  have ha : State.asksTrailing { s with alerts := al } g (s.occupiers k t p) p =
      s.asksTrailing g (s.occupiers k t p) p := rfl
  unfold State.evaluate
  simp only [ho, ha]
  split <;> rfl

/-- A notice reads no alert and changes none, so it may come before or after the alerts are brought to their conditions (R105,
R167). -/
theorem State.noticeEnded_alerts (s : State) (al : Alerts) (a : StationNo) :
    State.noticeEnded { s with alerts := al } a = { s.noticeEnded a with alerts := al } := by
  have hl : ∀ i, State.locate { s with alerts := al } i = s.locate i := fun _ => rfl
  unfold State.noticeEnded State.completePending
  simp only [hl, State.evaluate_alerts]
  split
  · split
    · split
      · split
        · split <;> rfl
        · rfl
      · rfl
    · rfl
  · rfl

/-! ### The receiver (R174) -/

/-- A byte in a frame drops the frame, ends it, or leaves it under way. -/
theorem Receiver.grown_cases (got : List Byte) (spoiled : Bool) :
    (dropsAtLength got = true ∧ Receiver.grown got spoiled = (.hunting, none)) ∨
      (dropsAtLength got = false ∧ frameShape got = true ∧ Receiver.grown got spoiled = (.hunting, some (got, spoiled))) ∨
      (dropsAtLength got = false ∧ frameShape got = false ∧ Receiver.grown got spoiled = (.inFrame got spoiled, none)) := by
  unfold Receiver.grown
  cases dropsAtLength got <;> cases frameShape got <;> simp

/-- Hunting, a byte that is no start byte, or that has a byte error, is ignored. -/
theorem Receiver.next_ignored {b : LineByte} (h : b.error = true ∨ b.value ≠ 0x5A#8) :
    Receiver.next .hunting b = (.hunting, none) :=
  if_neg fun g => h.elim (fun e => by simp [g.1] at e) fun e => e g.2

/-- Bytes are taken one after the other, whatever events they are given in. -/
theorem State.receive_append (s : State) (line more : List LineByte) :
    s.receive (line ++ more) = (s.receive line).receive more :=
  List.foldl_append ..

/-- An ended frame is discarded, or offered to the buffer, where an idle port takes it. -/
theorem State.frameEnded_cases (s : State) (bytes : List Byte) (spoiled : Bool) :
    ((readFrame bytes = none ∨ spoiled = true) ∧ s.frameEnded bytes spoiled = s) ∨
      ∃ f, readFrame bytes = some f ∧ spoiled = false ∧
        s.frameEnded bytes spoiled = State.takeNext { s with port := s.port.offer f } := by
  unfold State.frameEnded
  cases readFrame bytes <;> cases spoiled <;> simp

/-! ### Numbers -/

/-- A mover number names a mover exactly from 0 to 11 (R37). -/
theorem moverNo_eq_some {n : Nat} {m : MoverNo} : moverNo n = some m ↔ m.val = n := by
  unfold moverNo
  constructor
  · intro h
    split at h
    · cases h; rfl
    · cases h
  · intro h
    subst h
    simp

theorem moverNo_eq_none {n : Nat} : moverNo n = none ↔ 11 < n := by
  unfold moverNo
  split <;> simp <;> omega

/-- A station address names a row exactly from 1 to 32 (R118). -/
theorem stationNo_eq_some {n : Nat} {a : StationNo} : stationNo n = some a ↔ a.val + 1 = n := by
  unfold stationNo
  constructor
  · intro h
    split at h
    · cases h; simp; omega
    · cases h
  · intro h
    subst h
    simp

theorem trackNo_eq_some {n : Nat} {k : TrackNo} : trackNo n = some k ↔ k.val = n := by
  unfold trackNo
  constructor
  · intro h
    split at h
    · cases h; rfl
    · cases h
  · intro h
    subst h
    simp

end Sys2Proof.Machine
end

