-- ==== Sys2Proof/Laws/PerInstr.lean ====
section
/-!
SUPPORT. One fact about every command as syntax: the body it is carried in has the length Table 11-2 gives it (R181); commands
that are no request, and requests without operands, have an empty body.
-/

namespace Sys2Proof.Laws.BodyLength

open Sys2Proof

@[simp] theorem toBytes_length (k : Nat) (z : Int) : (toBytes k z).length = k := by
  induction k generalizing z with
  | zero => rfl
  | succ k ih => simp [toBytes, ih]

/-- The body length Table 11-2 gives a request, 0 for a command that is none (R181). -/
def tableLength (i : Instr) : Nat :=
  match i with
  | .defineTrack _ _ count _ => 5 + 2 * count
  | .removeTrack _ => 1
  | .queryTrack _ => 1
  | .blockSegment _ => 1
  | .unblockSegment _ => 1
  | .querySegment _ => 1
  | .reserve _ _ _ => 3
  | .release _ _ _ => 3
  | .configureMover _ _ => 28
  | .unlock _ => 1
  | .lock _ => 1
  | .move _ _ _ => 6
  | .stop _ => 1
  | .resetFault _ => 1
  | .queryMover _ => 1
  | .assignStation _ _ _ _ _ _ => 9
  | .unassignStation _ => 1
  | .queryStation _ _ => 2
  | .setAdmission _ => 1
  | .setProving _ _ => 4
  | .setWind _ => 18
  | .ackAlerts _ => 1
  | _ => 0

/-- The body of a well-formed command has the length of Table 11-2. -/
def Statement (i : Instr) : Prop := i.wf = true → (requestBody i).length = tableLength i

theorem lengths_flatMap (lengths : List Nat) :
    (lengths.flatMap fun n : Nat => toBytes 2 (n : Int)).length = 2 * lengths.length := by
  induction lengths with
  | nil => rfl
  | cons n rest ih => simp only [List.flatMap_cons, List.length_append, toBytes_length, ih, List.length_cons]; omega

theorem fullReset : Statement .fullReset := fun _ => rfl

theorem frameReceived : ∀ line last, Statement (.frameReceived line last) := by
  intro line last _; rfl

theorem frameLengthDrop : ∀ line, Statement (.frameLengthDrop line) := by
  intro line _; rfl

theorem frameGapTimeout : Statement .frameGapTimeout := by
  intro _; rfl

theorem answerSent : Statement .answerSent := fun _ => rfl

theorem defineTrack (track start count : Nat) (lengths : List Nat) : Statement (.defineTrack track start count lengths) := by
  intro h
  simp only [Instr.wf, Bool.and_eq_true, decide_eq_true_eq] at h
  simp only [requestBody, tableLength, List.length_append, toBytes_length, lengths_flatMap, h.1.2]

theorem removeTrack : ∀ track, Statement (.removeTrack track) := by
  intro track _; simp [requestBody, tableLength]

theorem queryTrack : ∀ track, Statement (.queryTrack track) := by
  intro track _; simp [requestBody, tableLength]

theorem blockSegment : ∀ index, Statement (.blockSegment index) := by
  intro index _; simp [requestBody, tableLength]

theorem unblockSegment : ∀ index, Statement (.unblockSegment index) := by
  intro index _; simp [requestBody, tableLength]

theorem querySegment : ∀ index, Statement (.querySegment index) := by
  intro index _; simp [requestBody, tableLength]

theorem reserve : ∀ mover endCode count, Statement (.reserve mover endCode count) := by
  intro mover endCode count _; simp [requestBody, tableLength]

theorem release : ∀ mover endCode count, Statement (.release mover endCode count) := by
  intro mover endCode count _; simp [requestBody, tableLength]

theorem configureMover : ∀ mover cfg, Statement (.configureMover mover cfg) := by
  intro mover cfg _; simp [requestBody, tableLength]

theorem unlock : ∀ mover, Statement (.unlock mover) := by
  intro mover _; simp [requestBody, tableLength]

theorem lock : ∀ mover, Statement (.lock mover) := by
  intro mover _; simp [requestBody, tableLength]

theorem move : ∀ mover target profile, Statement (.move mover target profile) := by
  intro mover target profile _; simp [requestBody, tableLength]

theorem stop : ∀ mover, Statement (.stop mover) := by
  intro mover _; simp [requestBody, tableLength]

theorem stopAll : Statement .stopAll := fun _ => rfl

theorem resetFault : ∀ mover, Statement (.resetFault mover) := by
  intro mover _; simp [requestBody, tableLength]

theorem queryMover : ∀ mover, Statement (.queryMover mover) := by
  intro mover _; simp [requestBody, tableLength]

theorem assignStation : ∀ address mover role offset poll busyExp, Statement (.assignStation address mover role offset poll busyExp) := by
  intro address mover role offset poll busyExp _; simp [requestBody, tableLength]

theorem unassignStation : ∀ address, Statement (.unassignStation address) := by
  intro address _; simp [requestBody, tableLength]

theorem queryStation : ∀ address view, Statement (.queryStation address view) := by
  intro address view _; simp [requestBody, tableLength]

theorem setAdmission : ∀ limit, Statement (.setAdmission limit) := by
  intro limit _; simp [requestBody, tableLength]

theorem queryQueue : Statement .queryQueue := fun _ => rfl

theorem setProving : ∀ interval stale, Statement (.setProving interval stale) := by
  intro interval stale _; simp [requestBody, tableLength]

theorem queryProving : Statement .queryProving := fun _ => rfl

theorem setWind : ∀ settings, Statement (.setWind settings) := by
  intro settings _; simp [requestBody, tableLength]

theorem queryWind : Statement .queryWind := fun _ => rfl

theorem queryAlerts : Statement .queryAlerts := fun _ => rfl

theorem ackAlerts : ∀ set, Statement (.ackAlerts set) := by
  intro set _; simp [requestBody, tableLength]

theorem identify : Statement .identify := fun _ => rfl

theorem transactionStart : Statement .transactionStart := fun _ => rfl

theorem broadcastHoldStart : Statement .broadcastHoldStart := fun _ => rfl

theorem broadcastHoldEnd : Statement .broadcastHoldEnd := fun _ => rfl

theorem fieldAnswerReceived : ∀ bytes, Statement (.fieldAnswerReceived bytes) := by
  intro bytes _; rfl

theorem answerBreak : Statement .answerBreak := fun _ => rfl

theorem answerWindowClosed : Statement .answerWindowClosed := fun _ => rfl

theorem provingTimerExpiry : Statement .provingTimerExpiry := fun _ => rfl

theorem consistentFinding : ∀ index, Statement (.consistentFinding index) := by
  intro index _; rfl

theorem inconsistentFinding : ∀ index, Statement (.inconsistentFinding index) := by
  intro index _; rfl

theorem trailingRelease : ∀ index, Statement (.trailingRelease index) := by
  intro index _; rfl

theorem intrusionNotice : ∀ mover, Statement (.intrusionNotice mover) := by
  intro mover _; rfl

theorem enrolTimerExpiry : ∀ mover, Statement (.enrolTimerExpiry mover) := by
  intro mover _; rfl

theorem startTimerExpiry : ∀ mover, Statement (.startTimerExpiry mover) := by
  intro mover _; rfl

theorem permitTimerExpiry : ∀ mover, Statement (.permitTimerExpiry mover) := by
  intro mover _; rfl

theorem dwellTimerExpiry : ∀ mover, Statement (.dwellTimerExpiry mover) := by
  intro mover _; rfl

theorem stopTimerExpiry : ∀ mover, Statement (.stopTimerExpiry mover) := by
  intro mover _; rfl

theorem anemometerPulse : ∀ channel, Statement (.anemometerPulse channel) := by
  intro channel _; rfl

theorem windSample : ∀ channel statusHigh, Statement (.windSample channel statusHigh) := by
  intro channel statusHigh _; rfl

theorem rainInputChange : ∀ high, Statement (.rainInputChange high) := by
  intro high _; rfl

theorem rainOnExpiry : Statement .rainOnExpiry := fun _ => rfl

theorem rainOffExpiry : Statement .rainOffExpiry := fun _ => rfl

theorem estopInputChange : ∀ high, Statement (.estopInputChange high) := by
  intro high _; rfl

theorem chainOpen : Statement .chainOpen := fun _ => rfl

theorem chainClosed : Statement .chainClosed := fun _ => rfl

theorem openingNoticeMovers : Statement .openingNoticeMovers := fun _ => rfl

theorem openingNoticeFieldLink : Statement .openingNoticeFieldLink := fun _ => rfl

theorem commandFrameEnd : Statement .commandFrameEnd := fun _ => rfl

theorem resetInputReleased : Statement .resetInputReleased := fun _ => rfl

end Sys2Proof.Laws.BodyLength
end

