-- ==== Sys2Proof/Tests/Slice0.lean ====
section
/-!
SUPPORT. The model's own tests: the checks of WellFormed on ill-formed commands, the manual's worked values, and for every statement a
state and operands that meet its hypotheses, each clause at a boundary of its range. The expected values come from the
manual's tables, rules and worked sequences, or from hand calculation.
-/

namespace Sys2Proof.Tests

open Sys2Proof Sys2Proof.Machine

-- One thread for these many small theorems: each thread asks for its own large stack.
set_option Elab.async false

/-! ### WellFormed refuses an ill-formed command at each check -/

def plainRaw : RawConfig where
  track := 0
  plusExtent := 1000
  minusExtent := 1000
  vMax := 250
  accel := 20
  brake := 40
  standoff := 500
  tolerance := 20
  creep := 10
  gain := 8
  trimLimit := 30
  skewLimit := 100
  resume := 2000
  dwell := 5
  permit := 1000
  wind := 1
  exempt := 0

/-- One-byte, two-byte and three-byte operands at the first value that does not fit. -/
theorem test_wf_refuses_operands_too_wide :
    (Instr.stop 255).wf = true ∧ (Instr.stop 256).wf = false ∧
    (Instr.move 0 0xFFFFFF 0xFFFF).wf = true ∧ (Instr.move 0 0x1000000 0xFFFF).wf = false ∧
    (Instr.move 0 0xFFFFFF 0x10000).wf = false ∧ (Instr.move 256 0 0).wf = false ∧
    (Instr.setProving 65535 65535).wf = true ∧ (Instr.setProving 65536 0).wf = false ∧
    (Instr.setProving 0 65536).wf = false ∧ (Instr.reserve 0 256 0).wf = false ∧ (Instr.release 0 0 256).wf = false := by
  decide

theorem test_wf_refuses_offsets_too_wide :
    (Instr.assignStation 1 0 1 (-8388608) 10 0).wf = true ∧ (Instr.assignStation 1 0 1 (-8388609) 10 0).wf = false ∧
    (Instr.assignStation 1 0 1 8388607 10 0).wf = true ∧ (Instr.assignStation 1 0 1 8388608 10 0).wf = false := by
  decide

theorem test_wf_refuses_lists_that_disagree :
    (Instr.defineTrack 0 0 2 [1000, 1000]).wf = true ∧ (Instr.defineTrack 0 0 2 [1000]).wf = false ∧
    (Instr.defineTrack 0 0 1 [65536]).wf = false ∧ (Instr.defineTrack 0 0x1000000 0 []).wf = false := by
  decide

theorem test_wf_refuses_configurations_too_wide :
    (Instr.configureMover 0 plainRaw).wf = true ∧ (Instr.configureMover 0 { plainRaw with vMax := 65536 }).wf = false ∧
    (Instr.configureMover 0 { plainRaw with plusExtent := 0x1000000 }).wf = false ∧
    (Instr.configureMover 0 { plainRaw with creep := 256 }).wf = false ∧
    (Instr.setWind windSettingsAtReset).wf = true ∧
    (Instr.setWind { windSettingsAtReset with window := 256 }).wf = false ∧
    (Instr.setWind { windSettingsAtReset with scale0 := 65536 }).wf = false := by
  decide

/-- Bytes that arrive without a byte error. -/
def clean (bytes : List Byte) : List LineByte := bytes.map fun v => ⟨v, false⟩

/-- Start byte, length byte 2 to 252, and length + 2 bytes after it (R173). -/
theorem test_shapes_of_frames :
    frameShape [0x5A#8, 2#8, 1#8, 2#8, 3#8, 4#8] = true ∧ frameShape [0x5B#8, 2#8, 1#8, 2#8, 3#8, 4#8] = false ∧
    frameShape [0x5A#8, 1#8, 1#8, 2#8, 3#8] = false ∧ frameShape [0x5A#8, 2#8, 1#8, 2#8, 3#8] = false ∧
    frameShape (0x5A#8 :: 253#8 :: List.replicate 255 0#8) = false ∧
    frameShape (0x5A#8 :: 252#8 :: List.replicate 254 0#8) = true ∧ frameShape [0x5A#8] = false := by
  decide +kernel

theorem test_wf_refuses_other_events :
    (Instr.frameLengthDrop (clean [0x5A#8, 1#8])).wf = true ∧ (Instr.frameLengthDrop (clean [0x5A#8, 2#8])).wf = false ∧
    (Instr.frameLengthDrop (clean [0x5A#8, 252#8])).wf = false ∧ (Instr.frameLengthDrop (clean [0x5A#8, 253#8])).wf = true ∧
    (Instr.frameLengthDrop []).wf = false ∧
    (Instr.fieldAnswerReceived []).wf = false ∧ (Instr.consistentFinding 127).wf = true ∧
    (Instr.consistentFinding 128).wf = false ∧ (Instr.inconsistentFinding 128).wf = false ∧
    (Instr.trailingRelease 128).wf = false := by
  decide

/-! ### Bytes written out from the manual's layouts -/

/-- Table 11-2 (R181): RESERVE 1 MINUS 3; MOVE 0 to 45,000 at 250; ASSIGN_STATION 10 to mover 6 as FOLLOW, offset −15,000, poll 5,
exponent 4; ACK_ALERTS of STORM and ESTOP; SET_PROVING 20, 500. -/
theorem test_requests_written_out :
    decodeRequest 0x10#8 [0x01#8, 0x02#8, 0x03#8] = .ok (.reserve 1 2 3) ∧
    decodeRequest 0x23#8 [0x00#8, 0x00#8, 0xAF#8, 0xC8#8, 0x00#8, 0xFA#8] = .ok (.move 0 45000 250) ∧
    decodeRequest 0x30#8 [0x0A#8, 0x06#8, 0x02#8, 0xFF#8, 0xC5#8, 0x68#8, 0x00#8, 0x05#8, 0x04#8] =
      .ok (.assignStation 10 6 2 (-15000) 5 4) ∧
    decodeRequest 0x71#8 [0x12#8] = .ok (.ackAlerts 0x12) ∧
    decodeRequest 0x50#8 [0x00#8, 0x14#8, 0x01#8, 0xF4#8] = .ok (.setProving 20 500) ∧
    decodeRequest 0x01#8 [0x00#8, 0x00#8, 0x07#8, 0xD0#8, 0x01#8, 0x17#8, 0x70#8] = .ok (.defineTrack 0 2000 1 [6000]) ∧
    decodeRequest 0x7F#8 [] = .ok .identify := by
  decide

/-- R176: an unknown code, a body of the wrong length with the length Table 11-2 gives, and DEFINE_TRACK's 5 + 2n. -/
theorem test_bad_requests_written_out :
    decodeRequest 0x07#8 [] = .error .unknownCode ∧ decodeRequest 0x24#8 [] = .error (.length 1#8) ∧
    decodeRequest 0x20#8 [0#8] = .error (.length 28#8) ∧ decodeRequest 0x60#8 [] = .error (.length 18#8) ∧
    decodeRequest 0x01#8 [0x00#8, 0x00#8, 0x07#8, 0xD0#8, 0x02#8, 0x17#8, 0x70#8] = .error (.length 9#8) ∧
    decodeRequest 0x01#8 [0x00#8, 0x00#8, 0x07#8, 0xD0#8, 0x00#8] = .ok (.defineTrack 0 2000 0 []) := by
  decide

/-- DEFINE_TRACK's expected length at the ends of a byte: 5 + 2 × 0, 5 + 2 × 125 = 255, and 257, which no byte names; a body of four
bytes carries no count (R176, log entry 15). -/
theorem test_expected_lengths :
    decodeRequest 0x01#8 [0#8, 0#8, 0#8, 0#8, 0#8, 0#8] = .error (.length 5#8) ∧
    decodeRequest 0x01#8 [0#8, 0#8, 0#8, 0#8, 125#8] = .error (.length 255#8) ∧
    decodeRequest 0x01#8 [0#8, 0#8, 0#8, 0#8, 126#8] = .error (.length (Config.freeExpectedLength (some 126))) ∧
    decodeRequest 0x01#8 [0#8, 0#8, 0#8, 0#8] = .error (.length (Config.freeExpectedLength none)) ∧
    decodeRequest 0x32#8 [1#8, 2#8, 3#8] = .error (.length 2#8) ∧ decodeRequest 0x51#8 [0#8] = .error (.length 0#8) :=
  ⟨rfl, rfl, rfl, rfl, rfl, rfl⟩

/-- The check value of the CRC of R138 (polynomial 0x1021, initial 0xFFFF) over the ASCII digits 1 to 9 is 0x29B1. -/
theorem test_crc_check_value :
    crc16 [0x31#8, 0x32#8, 0x33#8, 0x34#8, 0x35#8, 0x36#8, 0x37#8, 0x38#8, 0x39#8] = 0x29B1#16 := by
  decide +kernel

/-- R136, R138: the fields of command frames: the broadcast HOLD, and DRIVE −180 with release and sequence bit 1 to address 5. -/
theorem test_command_frames_written_out :
    broadcastFrame.take 5 = [0x00#8, 0x03#8, 0x00#8, 0x00#8, 0x00#8] ∧ broadcastFrame.length = 7 ∧
    (commandFrame 5 (.drive (-180) true) true).take 5 = [0x05#8, 0x82#8, 0xFF#8, 0x4C#8, 0x01#8] ∧
    (commandFrame 32 .ident false).take 5 = [0x20#8, 0x04#8, 0x00#8, 0x00#8, 0x00#8] := by
  decide +kernel

/-- R173, R177: the answer OK to IDENTIFY with tag 7 begins with start byte, length 20, tag, status and echoed code. -/
theorem test_answer_frame_written_out :
    (answerFrame 7#8 { code := 0x7F#8, status := .ok, items := identifyItems }).take 11 =
      [0x5A#8, 20#8, 7#8, 0x00#8, 0x7F#8, 0x43#8, 0x56#8, 0x34#8, 0x32#8, 0x31#8, 0x30#8] := by
  decide +kernel

/-- A word of the opcode table spells no command, because the table gives no row any bits (log entry 2). -/
theorem test_no_table_words :
    decodeTableWord 8 0 = none ∧ State.reset.withFetchWord 8 0 = State.reset := by
  decide +kernel

/-! ### The manual's worked values -/

/-- Table 5-1 and the example of R1. -/
theorem test_square_roots_of_table_5_1 :
    [60, 300, 600, 4000, 50000, 400000, 9600000].map isqrt = [7, 17, 24, 63, 223, 632, 3098] := by
  decide +kernel

/-- Panel S1 of Chapter 5. -/
def panelS1 : MoverConfig where
  track := 1
  plusExtent := 14000
  minusExtent := 14000
  vMax := 300
  accel := 20
  brake := 40
  standoff := 1000
  tolerance := 20
  creep := 10
  gain := 8
  trimLimit := 30
  skewLimit := 150
  resume := 2000
  dwell := 5
  permit := 1000
  wind := 4
  exempt := false

def breezyReport (cls : WindClass) : LawInput where
  config := panelS1
  dir := .plus
  reference := 50300
  target := 170300
  profile := 250
  authority := 70300
  prevSpeed := 150
  prevTime := some 9800
  now := 10000
  cls := cls

/-- "A panel under a breezy sky": 154, distances 5,000 and 120,000; in STRONG the command falls to 120 at once. -/
theorem test_breezy_sky :
    speedLaw (breezyReport .breezy) = .output 154 false 5000 120000 ∧
    speedLaw (breezyReport .strong) = .output 120 false 5000 120000 ∧
    speedLaw { breezyReport .breezy with authority := 64299 } = .overrun ∧
    speedLaw { breezyReport .breezy with authority := 64300 } = .output 0 false 0 120000 := by
  decide +kernel

/-- The portal of Chapter 5, its plus extent taken as 0. -/
def portal : MoverConfig :=
  { panelS1 with plusExtent := 0, minusExtent := 0, vMax := 100, brake := 5, standoff := 200, tolerance := 5, creep := 20, wind := 0 }

def portalReport (reference : Int) (target prevSpeed : Nat) (authority : Int) : LawInput where
  config := portal
  dir := .plus
  reference := reference
  target := target
  profile := 80
  authority := authority
  prevSpeed := prevSpeed
  prevTime := some 9800
  now := 10000
  cls := .calm

/-- "The portal approaching its target": reports 1 to 6 with 400, 60, 30, 6, 4 and 3 mm to go. -/
theorem test_portal_approaching_its_target :
    speedLaw (portalReport 99600 100000 70 150000) = .output 63 false 50200 400 ∧
    speedLaw (portalReport 99940 100000 63 150000) = .output 24 false 49860 60 ∧
    speedLaw (portalReport 99970 100000 24 150000) = .output 20 false 49830 30 ∧
    speedLaw (portalReport 99994 100000 20 150000) = .output 20 false 49806 6 ∧
    speedLaw (portalReport 99996 100000 20 150000) = .output 0 true 49804 4 ∧
    speedLaw (portalReport 99997 100000 0 150000) = .output 0 true 49803 3 := by
  decide +kernel

/-- "Closing on the authority end": e of 1,100, 600, 260, 212, 203 and 199 mm. -/
theorem test_portal_closing_on_the_authority_end :
    speedLaw (portalReport 98900 500000 80 100000) = .output 80 false 900 401100 ∧
    speedLaw (portalReport 99400 500000 80 100000) = .output 63 false 400 400600 ∧
    speedLaw (portalReport 99740 500000 63 100000) = .output 24 false 60 400260 ∧
    speedLaw (portalReport 99788 500000 24 100000) = .output 10 false 12 400212 ∧
    speedLaw (portalReport 99797 500000 10 100000) = .output 5 false 3 400203 ∧
    speedLaw (portalReport 99801 500000 5 100000) = .output 0 false 0 400199 := by
  decide +kernel

/-- "Trimming a follower", with its variations: skew 43 gives trim 21 and speed 133; V 12 with trim 20 gives 0; V −154 gives −175. -/
theorem test_trimming_a_follower :
    38350 - (-12000) - extrapolate 50300 180 40 = 43 ∧ trimFor panelS1 43 = 21 ∧ trimmedSpeed 154 21 .plus 300 = 133 ∧
    trimFor panelS1 40 = 20 ∧ trimmedSpeed 12 20 .plus 300 = 0 ∧ trimmedSpeed (-154) 21 .minus 300 = -175 ∧
    trimFor panelS1 (-43) = -21 ∧ trimFor panelS1 61 = 30 ∧ trimFor panelS1 (-61) = -30 ∧
    trimmedSpeed 154 18 .plus 300 = 136 ∧ trimmedSpeed 290 (-30) .plus 300 = 300 := by
  decide +kernel

/-- The state an outcome leaves. -/
def nextOf (otherwise : State) (o : Host.Outcome State Fault Refusal) : State :=
  match o with
  | .next t => t
  | _ => otherwise

/-- A state after several commands, in order. -/
def runs (s : State) (cs : List Instr) : State := cs.foldl (fun s c => nextOf s (exec c s)) s

/-- The status and the items' numbers of the answer a command leaves. -/
def answerOf (o : Host.Outcome State Fault Refusal) : Option (Status × List Int) :=
  match o with
  | .next t => t.answer.map fun a => (a.status, a.items.map (·.value))
  | _ => none

def define (track n : Nat) : Instr := .defineTrack track 0 n (List.replicate n 1000)

/-- The tracks after steps 1 to 9 of "allocation and fragmentation" (Chapter 1). -/
def fragmented : State :=
  runs State.reset
    [define 0 12, define 1 12, define 2 20, define 3 4, .removeTrack 1, define 3 6, define 1 14, define 2 22, define 0 64]

theorem test_allocation_and_fragmentation :
    (List.finRange 4).map (fun k => (fragmented.track k).map fun t => (t.base, t.count)) =
      [some (58, 64), some (44, 14), some (18, 22), some (12, 6)] ∧
    answerOf (exec (define 3 20) fragmented) = some (.noRoom, [18]) ∧
    unallocatedCount fragmented.tracks = 22 ∧ largestFreeRun fragmented.tracks = 12 ∧
    largestFreeStart fragmented.tracks = some 0 := by
  decide +kernel

/-- Track 0 of the running example: 2,000 to 114,000 mm in twelve places. -/
def runway : List Nat := 6000 :: (List.replicate 10 10000 ++ [6000])

def northTrack : Track :=
  { start := 2000, base := 0, serial := 0, segs := runway.map Seg.fresh }

/-- The geometry of 1.2, R9 and R10. -/
theorem test_geometry_of_the_north_runway :
    northTrack.endPos = 114000 ∧ northTrack.segStart 5 = 48000 ∧ northTrack.segEnd 10 = 108000 ∧
    northTrack.inPlace 38000 4 = true ∧ northTrack.inPlace 113999 11 = true ∧
    (List.range 12).all (fun p => !northTrack.inPlace 1999 p && !northTrack.inPlace 114000 p) = true ∧
    northTrack.overlapped 31000 54000 = [3, 4, 5] ∧ northTrack.overlapped 31000 58000 = [3, 4, 5, 6] ∧
    northTrack.overlapped 38000 54000 = [4, 5] := by
  decide +kernel

def panel (track : TrackNo) (extent : Nat) : MoverConfig :=
  { panelS1 with track := track, plusExtent := extent, minusExtent := extent, wind := 0 }

def parkedPanel (extent : Nat) (reference : Int) : Mover :=
  { Mover.atReset with state := .parked, config := some (panel 0 extent), reference := some reference, leadTime := some 0 }

/-- The runway with the runs of movers 0 and 1. -/
def northHeld (a b : Run) : Track :=
  { northTrack with
    segs := northTrack.segs.mapIdx fun p (g : Seg) =>
      if a.low ≤ p ∧ p ≤ a.high then g.grant 0 else if b.low ≤ p ∧ p ≤ b.high then g.grant 1 else g }

/-- A runway with panels N1 (places 1 and 2) and N2 (places 7 to 9), both parked (Chapter 2). -/
def twoPanels : State :=
  let s := State.reset
  { s with
    tracks := tset s.tracks 0 (some (northHeld ⟨1, 2⟩ ⟨7, 9⟩))
    serial := 1
    runs := tset (tset s.runs 0 (some ⟨1, 2⟩)) 1 (some ⟨7, 9⟩)
    movers := tset (tset s.movers 0 (parkedPanel 8000 17000)) 1 (parkedPanel 8000 80000)
    inputs := { s.inputs with chainOpen := false } }.updateAlerts

def lowHigh (s : State) : List (Option (Nat × Nat)) := [(s.run 0).map fun r => (r.low, r.high), (s.run 1).map fun r => (r.low, r.high)]

/-- Steps 1 to 5 of "two panels on the north runway", and the REFUSED_STATE with FRONT of step 7. -/
def facing : State := runs twoPanels [.reserve 0 1 3, .reserve 1 2 3, .move 1 66000 100, .release 0 1 1, .reserve 1 2 2]

theorem test_two_panels_on_the_north_runway :
    answerOf (exec (.reserve 0 1 3) twoPanels) = some (.ok, [3, 0, 0, 1, 5, 1, 5, 58000]) ∧
    answerOf (exec (.reserve 1 2 3) (runs twoPanels [.reserve 0 1 3])) =
      some (.partialGrant, [1, 1, 2, 0, 1, 5, 6, 9, 6, 9, 98000]) ∧
    lowHigh facing = [some (1, 4), some (5, 9)] ∧ facing.authorityEnd 0 = some 48000 ∧ facing.authorityEnd 1 = some 48000 ∧
    (facing.mover 1).state = .starting ∧ (facing.mover 1).dir = .minus ∧
    answerOf (exec (.reserve 1 2 1) facing) = some (.refusedConflict, [0, 1, 2, 0, 1, 4, 5, 9, 5, 9, 48000]) ∧
    answerOf (exec (.release 1 2 1) facing) = some (.refusedState, [3]) := by
  decide +kernel

/-- Steps 6 to 8: a trailing release of place 9 at reference 74,000, and a RELEASE stopped by the footprint at 69,000. -/
def trailing : State :=
  let s := facing.modMover 1 fun x => { x.toMoving 0 1000 with reference := some 74000 }
  runs { s with toReservation := [.trailing 9 1] } [.trailingRelease 9]

theorem test_trailing_release_and_release :
    lowHigh trailing = [some (1, 4), some (5, 8)] ∧ (trailing.segAt 9).map (·.holder) = some none ∧
    answerOf (exec (.release 1 1 3) (trailing.modMover 1 fun x => { x with reference := some 69000 })) =
      some (.inUse, [1, 5, 7, 5, 7, 48000, 1, 1, 1, 7]) := by
  decide +kernel

/-- Rows of "a channel through calm, gust and easing" (Chapter 9): the class, gust-trip flag and qmean of channel W2 after each of
windows 1 to 6 of four samples. -/
def easing : Channel :=
  { Channel.atReset with statusPin := true }

def samplesTaken (rows : List (List Nat)) : List (ChannelClass × Bool × Option Nat) :=
  (rows.foldl
    (fun (acc : Channel × List (ChannelClass × Bool × Option Nat)) row =>
      let c := row.foldl (fun c n => Channel.sample { windSettingsAtReset with window := 3 } 64 true { c with pulses := n }) acc.1
      (c, acc.2 ++ [(c.cls, c.gustTrip, c.stats.map (·.qmean))]))
    (easing, [])).2

theorem test_calm_gust_and_easing :
    samplesTaken
      [[82, 95, 140, 77], [50, 60, 55, 58], [40, 48, 44, 52], [90, 260, 150, 110], [120, 140, 135, 125], [30, 40, 35, 25]] =
      [(.live .breezy, false, some 101), (.live .breezy, false, some 55), (.live .calm, false, some 46),
        (.live .storm, true, some 166), (.live .strong, false, some 130), (.live .breezy, false, some 32)] := by
  decide +kernel

/-- R155: raw is the count at scale 64, limited to 999; the largest product is 268,365,825. -/
theorem test_raw_samples :
    rawSample 140 64 = 140 ∧ rawSample 1000 64 = 999 ∧ rawSample 999 64 = 999 ∧ 65535 * 4095 = 268365825 ∧
    rawSample 65535 4095 = 999 ∧ rawSample 3 32 = 1 := by
  decide +kernel

def actives (s : State) : List AlertName := alertNames.filter fun n => (s.alerts.get n).active

def latches (s : State) : List AlertName := alertNames.filter fun n => (s.alerts.get n).latched

/-- A state at another time. -/
def atTime (s : State) (now : Time) : State := { s with now := now }

/-- Chapter 10's "reset, an emergency stop and its acknowledgement", without movers, the windows CALM: 100, 4,100, 500,005,
500,350, 500,400, 500,500. -/
def closed100 : State := runs (atTime (State.atReset false true) 100) [.chainClosed]

def acknowledged4100 : State :=
  runs
    (State.updateAlerts
      { atTime closed100 4100 with
        wind := { closed100.wind with channels := tmap (fun _ c => { c with cls := .live .calm, provisional := false }) closed100.wind.channels } })
    [.ackAlerts 0x12]

def opened500005 : State :=
  runs (atTime (runs (atTime acknowledged4100 500000) [.estopInputChange false]) 500005) [.chainOpen]

def rising500350 : State := atTime (runs (atTime opened500005 500300) [.estopInputChange true]) 500350

theorem test_emergency_stop_and_its_acknowledgement :
    latches (State.atReset false true) = [.storm, .estop] ∧ (State.atReset false true).attn = true ∧
    actives closed100 = [.storm] ∧ latches closed100 = [.storm, .estop] ∧
    latches acknowledged4100 = [] ∧ acknowledged4100.attn = false ∧
    actives opened500005 = [.estop] ∧ latches opened500005 = [.estop] ∧ opened500005.inputs.lastOpening = some 500005 ∧
    opened500005.openingsMovers = 1 ∧ opened500005.openingsFieldLink = 1 ∧
    answerOf (exec (.ackAlerts 0x10) rising500350) = some (.ok, [1, 0x10, 1]) ∧
    latches (runs (atTime rising500350 500399) [.chainClosed, .ackAlerts 0x10]) = [.estop] ∧
    actives (runs (atTime rising500350 500400) [.chainClosed]) = [] ∧
    latches (runs (atTime rising500350 500400) [.chainClosed, .ackAlerts 0x10]) = [] := by
  decide +kernel

/-- R102: from cursor 6, the steps visit 43, 80, 117, 26, 63, 100 and 9 (Chapter 6's worked sweep). -/
theorem test_cursor_of_the_worked_sweep :
    (List.range 8).map (fun k => ((State.completeStep)^[k] { State.reset with proving := { State.reset.proving with cursor := 6 } }).proving.cursor) =
      [6, 43, 80, 117, 26, 63, 100, 9] := by
  decide +kernel

/-- The worked sweep at 100,760 (Chapter 6): N1 (run 2 to 3) at 30,600 stands in place 4, which N2 (run 4 to 8) holds; the cursor at
4. -/
def intruding : State :=
  let s := State.reset
  { s with
    now := 100760
    tracks := tset s.tracks 0 (some (northHeld ⟨2, 3⟩ ⟨4, 8⟩))
    serial := 1
    runs := tset (tset s.runs 0 (some ⟨2, 3⟩)) 1 (some ⟨4, 8⟩)
    movers := tset (tset s.movers 0 { parkedPanel 8000 30600 with leadTime := some 100700 }) 1
      { (parkedPanel 8000 74844).toMoving 100000 1000 with dir := .minus, leadTime := some 100750 }
    arbiter := { limit := 2, count := 1, queue := [] }
    proving := { s.proving with expiry := 100760, cursor := 4 }
    inputs := { s.inputs with chainOpen := false } }.updateAlerts

def intruded : State := runs intruding [.provingTimerExpiry, .inconsistentFinding 4, .intrusionNotice 0, .intrusionNotice 1]

theorem test_intrusion_on_the_north_runway :
    (nextOf intruding (exec .provingTimerExpiry intruding)).toReservation = [.inconsistent 4 0] ∧
    (nextOf intruding (exec .provingTimerExpiry intruding)).toMovers = [0, 1] ∧
    (intruded.segAt 4).map (fun g => (g.holder, g.suspect)) = some (some 1, true) ∧
    (intruded.mover 0).fault = some .intrusion ∧ (intruded.mover 1).fault = some .intrusion ∧
    lowHigh intruded = [some (2, 3), some (4, 8)] ∧ intruded.arbiter.count = 0 ∧ intruded.proving.cursor = 41 ∧
    intruded.proving.last = some 100760 ∧ actives intruded = [.storm, .intrusion, .moverFault] := by
  decide +kernel

/-- Panel N2 of "a lost answer and two retries" (Chapter 8): MOVING in direction −1 with stations 5, 6 and 7; the line idle at
200,000. -/
def n2Station (role : Role) (standing : Command) : Station :=
  { Station.atReset with
    assign := some { mover := 1, role := role, offset := 0, poll := if role = .brake then 100 else 50, busyExp := 0 }
    capability := some .driveBrake, generation := 1, state := .active, standing := some standing }

def n2Moving : State :=
  let s := State.reset
  { s with
    now := 200000
    tracks := tset s.tracks 0 (some (northHeld ⟨1, 4⟩ ⟨5, 9⟩))
    serial := 1
    runs := tset (tset s.runs 0 (some ⟨1, 4⟩)) 1 (some ⟨5, 9⟩)
    movers := tset (tset s.movers 0 (parkedPanel 8000 17000)) 1
      { (parkedPanel 8000 74000).toMoving 199900 1000 with
        dir := .minus, leadTime := some 199950, target := some 66000, profile := some 180 }
    arbiter := { limit := 2, count := 1, queue := [] }
    stations := tset (tset (tset s.stations 4 (n2Station .lead (.drive (-180) true))) 5
      (n2Station .follow (.drive (-176) true))) 6 (n2Station .brake driveZero)
    link :=
      { s.link with
        links := tset (tset (tset s.link.links 4 { Link.atReset with seq := true, due := some 200000 }) 5
          { Link.atReset with due := some 200001 }) 6 { Link.atReset with due := some 200030 } }
    inputs := { s.inputs with chainOpen := false } }.updateAlerts

def n2Report (address : Nat) (seq : Bool) (position : Nat) : List Byte :=
  reportFrame address seq
    { position := some position, speed := -180, brake := .released, faultCode := 0, capability := none, arrival := 0 }

/-- Station 5's first transaction, its window closed at 200,002. -/
def lost200002 : State :=
  runs (atTime (runs n2Moving [.transactionStart, .commandFrameEnd]) 200002) [.answerWindowClosed]

/-- Station 6's transaction, then the retry, answered with a bad CRC. -/
def corrupt200002 : State :=
  runs lost200002
    [.transactionStart, .commandFrameEnd, .fieldAnswerReceived (n2Report 6 false 73990), .transactionStart,
      .commandFrameEnd, .fieldAnswerReceived ((n2Report 5 true 73990).set 4 0#8)]

/-- The second retry, started at 200,003. -/
def retried200003 : State := runs (atTime corrupt200002 200003) [.transactionStart, .commandFrameEnd]

def linkFields (s : State) (a : StationNo) : Bool × Nat × Option (Command × Bool) × Option Time :=
  ((s.linkOf a).seq, (s.linkOf a).attempts, (s.linkOf a).retry, (s.linkOf a).due)

theorem test_lost_answer_and_two_retries :
    [linkFields lost200002 4, linkFields corrupt200002 5, linkFields corrupt200002 4] =
      [(true, 1, some (.drive (-180) true, true), some 200002), (true, 0, none, some 200052),
        (true, 2, some (.drive (-180) true, true), some 200002)] := by
  decide +kernel

theorem test_second_retry_answered :
    (retried200003.link.inFlight.map fun t => (t.command, t.seq)) = some (.drive (-180) true, true) ∧
    linkFields (runs retried200003 [.fieldAnswerReceived (n2Report 5 true 73990)]) 4 = (false, 0, none, some 200053) ∧
    ((runs retried200003 [.fieldAnswerReceived (n2Report 5 true 73990)]).mover 1).permitTimer = some 201003 := by
  decide +kernel

/-- "The same sequence ending in a strike-out", with the recovery at 201,005. -/
def struck200005 : State := runs (atTime retried200003 200005) [.answerWindowClosed]

def recovering201005 : State :=
  runs (atTime (runs struck200005
    [.transactionStart, .commandFrameEnd, .fieldAnswerReceived (n2Report 6 true 73990), .transactionStart, .commandFrameEnd,
      .fieldAnswerReceived (n2Report 7 false 73990)]) 201005)
    [.transactionStart, .commandFrameEnd, .fieldAnswerReceived (n2Report 6 false 73990), .transactionStart, .commandFrameEnd,
      .fieldAnswerReceived (n2Report 7 true 73990), .transactionStart]

theorem test_strike_out_and_recovery :
    linkFields struck200005 4 = (true, 3, none, some 201005) ∧ (struck200005.station 4).state = .lost ∧
    (struck200005.mover 1).fault = some .stationLost ∧ struck200005.arbiter.count = 0 ∧
    ([4, 5, 6].map fun a => ((struck200005.station a).standing, (struck200005.station a).urgent)) =
      [(some .hold, true), (some .hold, true), (some .hold, true)] ∧
    (recovering201005.link.inFlight.map fun t => (t.station, t.command, t.seq)) = some (4, .ident, true) := by
  decide +kernel

/-! ### Small scenes for the statements -/

/-- A segment of 10,000 mm. -/
def plainSeg (holder : Option MoverNo) : Seg :=
  { len := 10000, holder := holder, blocked := false, suspect := false, proven := none }

/-- A track from 1,000 to 51,000 mm; mover 0 holds places 1 and 2 when it holds a run. -/
def sceneTrack (held : Bool) : Track :=
  let h : Option MoverNo := if held = true then some 0 else none
  { start := 1000, base := 0, serial := 0, segs := [plainSeg none, plainSeg h, plainSeg h, plainSeg none, plainSeg none] }

def sceneConfig : MoverConfig where
  track := 0
  plusExtent := 1000
  minusExtent := 1000
  vMax := 250
  accel := 20
  brake := 40
  standoff := 500
  tolerance := 20
  creep := 10
  gain := 8
  trimLimit := 30
  skewLimit := 100
  resume := 2000
  dwell := 5
  permit := 1000
  wind := 1
  exempt := false

/-- A report of brakes applied, at rest, at a position. -/
def restReport (position : Nat) : Report :=
  { position := some position, speed := 0, brake := .applied, faultCode := 0, capability := none, arrival := 0 }

/-- A station of mover 0 in a role, its position 20,000 mm along with its offset. -/
def sceneStation (st : MState) (role : Role) (offset : Int) : Station where
  assign := some { mover := 0, role := role, offset := offset, poll := 20, busyExp := 2 }
  capability := if st = .lockedOut then none else some .driveBrake
  generation := 1
  state := if st = .lockedOut then .dormant else .active
  report := if st = .lockedOut then none else some (restReport (20000 + offset).toNat)
  standing :=
    match st with
    | .lockedOut => none
    | .enrolling => some .ident
    | .starting | .moving | .stopping => some driveZero
    | _ => some .hold
  urgent := false
  lastSent := none
  trim := 0

def sceneMover (st : MState) : Mover :=
  { Mover.atReset with
    state := st, config := some sceneConfig
    target := if st.holding = true then some 40000 else none
    profile := if st.holding = true then some 200 else none
    reference := if st.holding = true then some 20000 else none
    leadTime := if st.holding = true then some 0 else none
    stopReason := match st with | .held => some .authority | .faulted => some (.fault .skew) | .stopping => some .stopRequest | _ => none
    fault := if st = .faulted then some .skew else none
    phase := if st = .stopping then some .rundown else none
    enrolTimer := if st = .enrolling then some 0 else none
    startTimer := if st = .starting then some 0 else none
    permitTimer := if st = .moving then some 0 else none
    dwellTimer := if st = .moving then some 0 else none
    stopTimer := if st = .stopping then some 0 else none }

/-- Mover 0 in the given state, with LEAD, FOLLOW and BRAKE stations at addresses 1 to 3, on a track of five segments; the chain
closed, wind CALM. In QUEUED it waits behind mover 1, which is MOVING. -/
def scene (st : MState) : State :=
  let s := State.reset
  let waits := decide (st = .queued)
  State.updateAlerts
    { s with
      tracks := tset s.tracks 0 (some (sceneTrack st.holding))
      serial := 1
      runs := tset (tset s.runs 0 (if st.holding = true then some { low := 1, high := 2 } else none)) 1
        (if waits = true then some { low := 4, high := 4 } else none)
      movers := tset
        (tset s.movers 0 (sceneMover st)) 1
        (if waits = true then { Mover.atReset with state := .moving, permitTimer := some 0 } else Mover.atReset)
      arbiter :=
        { limit := if waits = true then 1 else 2, count := if waits = true ∨ st.counting = true then 1 else 0
          queue := if waits = true then [{ mover := 0, since := 0 }] else [] }
      stations := tset (tset (tset s.stations 0 (sceneStation st .lead 0)) 1 (sceneStation st .follow 500)) 2
        (sceneStation st .brake (-500))
      link :=
        { s.link with
          links := tmap (fun a l => if a.val < 3 ∧ st ≠ .lockedOut then { l with due := some 0 } else l) s.link.links }
      wind := { s.wind with channels := tmap (fun _ c => { c with cls := .live .calm, provisional := false }) s.wind.channels }
      inputs := { s.inputs with chainOpen := false } }

/-- The scene with the answer window of a command to the station in a row open. -/
def asking (st : MState) (row : StationNo) (c : Command) : State :=
  let s := scene st
  { s with
    link :=
      { s.link with
        line := .window
        inFlight := some { station := row, command := c, seq := false, generation := 1, priority := false } } }

/-- Every scene meets the premises of the statements about invariants. -/
theorem test_scenes_sound : ∀ st ∈ [MState.lockedOut, .enrolling, .parked, .starting, .moving, .held, .stopping, .faulted],
    (scene st).ArbiterAgrees ∧ (scene st).LayoutSound ∧ (scene st).resetLow = false := by
  unfold State.ArbiterAgrees State.LayoutSound Track.sound
  decide +kernel

theorem test_queued_scene_agrees : (scene .queued).ArbiterAgrees := by
  unfold State.ArbiterAgrees
  decide +kernel

theorem test_scene_holds_agree : (scene .moving).HoldsAgree := by
  unfold State.HoldsAgree State.holds State.onTrack
  decide +kernel
theorem test_scene_movers_sound : ∀ st ∈ [MState.enrolling, .moving, .stopping, .faulted], (scene st).MoversSound := by
  unfold State.MoversSound Mover.sound
  decide +kernel
theorem test_scene_stations_follow : (scene .moving).StationsFollow := by
  unfold State.StationsFollow
  decide +kernel
theorem test_scene_configs_sound : (scene .moving).ConfigsSound := by
  unfold State.ConfigsSound MoverConfig.sound
  decide +kernel
theorem test_scene_drives_sound : (scene .moving).DrivesSound := by
  have drives : ∀ a, ∀ x ∈ ((scene .moving).station a).assign,
      ((scene .moving).station a).standing = some driveZero ∧ ((scene .moving).mover x.mover).state.counting = true := by
    decide +kernel
  intro a x hx v release h
  obtain ⟨hz, hc⟩ := drives a x hx
  obtain ⟨rfl, -⟩ : v = 0 ∧ release = true := by simpa [hz, driveZero, eq_comm] using h
  exact ⟨hc, by simp⟩
theorem test_scene_wind_and_counters_sound : (scene .moving).WindSound ∧ (scene .moving).CountersBounded := by
  unfold State.WindSound State.CountersBounded windSettingsSound Channel.sound
  decide +kernel
theorem test_scene_alerts_follow : (scene .moving).AlertsFollow := by
  intro n
  cases n <;> decide +kernel

/-! ### Premises met: encodings, steps and invariants -/

theorem test_request_premises :
    (Instr.reserve 1 2 3).wf = true ∧ requestCode (.reserve 1 2 3) = some 0x10#8 ∧
    decodeRequest 0x10#8 [1#8, 2#8, 3#8] = .ok (.reserve 1 2 3) := by
  decide

theorem test_code_of_no_request : ∀ i, requestCode i ≠ some 0x07#8 := by
  intro i
  cases i <;> simp [requestCode]

theorem test_frame_premises :
    (List.replicate 250 (0#8)).length ≤ 250 ∧
    readFrame (supervisoryFrame 7#8 0x7F#8 []) = some { tag := 7#8, code := 0x7F#8, body := [] } := by
  decide +kernel

/-- A report at the ends of its ranges, in answer to IDENT and to another command, and a BUSY. -/
theorem test_field_answer_premises :
    readAnswer 5 32 .ident (reportFrame 32 true
        { position := some 999999, speed := -32768, brake := .transit, faultCode := 255, capability := some .brakeOnly, arrival := 5 } ++
        [9#8]) =
      .report true
        { position := some 999999, speed := -32768, brake := .transit, faultCode := 255, capability := some .brakeOnly, arrival := 5 } ∧
    readAnswer 5 1 .sample (reportFrame 1 false
        { position := none, speed := 32767, brake := .applied, faultCode := 0, capability := none, arrival := 5 }) =
      .report false { position := none, speed := 32767, brake := .applied, faultCode := 0, capability := none, arrival := 5 } ∧
    readAnswer 5 1 .sample (busyFrame 1) = .busy ∧ readAnswer 5 2 .sample (busyFrame 1) = .failed := by
  decide +kernel

/-- Position 1,000,000 is neither a position nor the unknown marker: a corrupt answer (R137). -/
theorem test_position_out_of_range :
    positionOf 999999 = some (some 999999) ∧ positionOf 1000000 = none ∧ positionOf 0xFFFFFE = none ∧
    positionOf 0xFFFFFF = some none := by
  decide

theorem test_idle_premises :
    State.reset.pending = [] ∧ step State.reset = .next { State.reset with now := 1 } ∧
    step { State.reset with resetLow := true } = .next { State.reset with resetLow := true } :=
  ⟨rfl, rfl, rfl⟩

theorem test_held_in_reset_premises :
    ({ State.reset with resetLow := true } : State).resetLow = true ∧ Instr.stopAll ≠ .fullReset ∧
    Instr.stopAll ≠ .resetInputReleased ∧ (∀ high, Instr.stopAll ≠ .rainInputChange high) ∧
    ∀ high, Instr.stopAll ≠ .estopInputChange high := by
  decide +kernel

theorem test_reset_premises :
    State.reset.inputs.rainPin = false ∧ State.reset.inputs.estopPin = false ∧ State.reset.resetLow = false := by
  decide

/-- A state and a step that meet the premises of every statement about a step. -/
theorem test_invariant_premises :
    let s := { scene .moving with pending := [.stop 0] }
    ∃ t, step s = .next t ∧ s.ArbiterAgrees ∧ s.LayoutSound ∧ s.HoldsAgree ∧ s.AlertsFollow ∧ s.MoversSound ∧
      s.StationsFollow ∧ s.ConfigsSound ∧ s.DrivesSound ∧ s.WindSound ∧ s.CountersBounded :=
  ⟨_, rfl, (test_scenes_sound .moving (by decide)).1, (test_scenes_sound .moving (by decide)).2.1, test_scene_holds_agree,
    test_scene_alerts_follow, test_scene_movers_sound .moving (by decide), test_scene_stations_follow,
    test_scene_configs_sound, test_scene_drives_sound, test_scene_wind_and_counters_sound.1,
    test_scene_wind_and_counters_sound.2⟩

theorem test_latch_premises :
    Instr.stopAll ≠ .fullReset ∧ (State.reset.alerts.get .storm).latched = true ∧
    ((nextOf State.reset (exec .stopAll State.reset)).alerts.get .storm).latched = true := by
  decide +kernel

def segHolder (s : State) (p : Nat) : Option (Option MoverNo) := ((s.track 0).bind (·.seg? p)).map (·.holder)

/-- Place 3 gains mover 0 as its holder in a step, its track's identity kept. -/
theorem test_gained_holder_premises :
    let s := { scene .parked with pending := [.reserve 0 1 1] }
    s.LayoutSound ∧ segHolder s 3 = some none ∧ segHolder (nextOf s (step s)) 3 = some (some 0) ∧
      ((nextOf s (step s)).track 0).map (·.serial) = (s.track 0).map (·.serial) := by
  unfold State.LayoutSound Track.sound
  decide +kernel

/-! ### Premises met: computations -/

theorem test_square_root_premises :
    isqrt 0 = 0 ∧ isqrt (2 ^ 32 - 1) = 65535 ∧
    authorityDistance { panelS1 with plusExtent := 0, standoff := 0 }
      (rawAuthority { panelS1 with plusExtent := 0 } .plus (-200000) 1000000) = 1200000 ∧
    targetDistance 1000000 (-200000) = 1200000 := by
  decide +kernel

theorem test_law_premises :
    (breezyReport .breezy).config.creep ≤ (breezyReport .breezy).config.vMax ∧
    speedLaw (breezyReport .breezy) = .output 154 false 5000 120000 ∧
    speedLaw { breezyReport .storm with target := 50320 } = .output 0 true 5000 20 ∧
    speedLaw { breezyReport .storm with target := 50321 } = .output 10 false 5000 21 := by
  decide +kernel

theorem test_trim_premises :
    trimFor { panelS1 with gain := 0 } 400 = 0 ∧ trimFor { panelS1 with trimLimit := 0 } 400 = 0 ∧
    ((60 * (panelS1.gain : Int)).tdiv 16).natAbs ≤ panelS1.trimLimit ∧ trimFor panelS1 60 = 30 ∧
    trimmedSpeed 10 10 .plus 250 = 0 ∧ trimmedSpeed 10 11 .plus 250 = 0 ∧ trimmedSpeed 10 9 .plus 250 = 1 ∧
    trimmedSpeed 240 (-10) .plus 250 = 250 ∧ trimmedSpeed 240 (-11) .plus 250 = 250 ∧ trimmedSpeed 0 5 .minus 250 = 0 := by
  decide

theorem test_cursor_premises : State.reset.proving.cursor < 128 := by decide

theorem test_first_fit_premises :
    firstFit State.reset.tracks 1 = some 0 ∧ firstFit State.reset.tracks 128 = some 0 ∧
    firstFit State.reset.tracks 129 = none ∧ firstFit fragmented.tracks 12 = some 0 ∧ firstFit fragmented.tracks 13 = none ∧
    allocated fragmented.tracks 121 = true ∧ allocated fragmented.tracks 122 = false ∧
    allocated fragmented.tracks 127 = false := by
  decide +kernel

theorem test_footprint_premises :
    (∀ g ∈ northTrack.segs, 0 < g.len) ∧ northTrack.start ≤ 2000 ∧ 113999 < northTrack.endPos ∧
    northTrack.liesOn 2000 114000 = true ∧ northTrack.liesOn 1999 10000 = false ∧ northTrack.liesOn 9000 114001 = false ∧
    northTrack.liesOn 114000 114000 = false ∧ northTrack.overlapped 9000 25000 = [1, 2] ∧
    northTrack.overlapped 72000 88000 = [7, 8, 9] := by
  decide +kernel

/-! ### Premises met: tracks and segments -/

def moverAfter (s : State) (c : Instr) : Mover := (runs s [c]).mover 0

def statusOf (s : State) (c : Instr) : Option (Status × List Int) := answerOf (exec c s)

/-- Each command, in the state, leaves the status and the items beside it. -/
def answers (s : State) (rows : List (Instr × Status × List Int)) : Bool :=
  rows.all fun r => decide (statusOf s r.1 = some r.2)

theorem test_track_free_premises :
    State.reset.TrackFree 3 ∧ (scene .lockedOut).TrackFree 0 ∧ (scene .lockedOut).track 0 ≠ none ∧
    State.reset.track 3 = none ∧ 940000 + [60000].sum ≤ 1000000 ∧
    firstFit (tset (scene .lockedOut).tracks 0 none) 64 = some 0 := by
  unfold State.TrackFree State.onTrack
  decide +kernel

theorem test_tracks_at_the_ends_of_their_ranges :
    answers State.reset
      [(.defineTrack 3 940000 1 [60000], .ok, [0, 1000000]),
       (.defineTrack 4 0 1 [1000], .refusedRange, [1]),
       (.defineTrack 3 1000000 1 [1000], .refusedRange, [2]),
       (.defineTrack 3 0 0 [], .refusedRange, [3]),
       (define 3 65, .refusedRange, [3]),
       (define 3 64, .ok, [0, 64000]),
       (.defineTrack 3 0 3 [1000, 999, 60001], .refusedRange, [4, 1]),
       (.defineTrack 3 0 2 [1000, 60001], .refusedRange, [4, 1]),
       (.defineTrack 3 999999 1 [1000], .refusedRange, [5]),
       (.defineTrack 3 940001 1 [60000], .refusedRange, [5]),
       (.defineTrack 4 0 125 [1000], .badRequest, [2, 255]),
       (.defineTrack 3 0 0 [1000], .badRequest, [2, 5]),
       (.removeTrack 4, .refusedRange, []),
       (.removeTrack 3, .ok, [0])] = true ∧
    statusOf (scene .lockedOut) (.removeTrack 0) = some (.ok, [5]) := by
  decide +kernel

theorem test_tracks_in_use :
    statusOf (scene .enrolling) (define 0 3) = some (.refusedState, [0]) ∧
    statusOf (scene .parked) (.removeTrack 0) = some (.refusedState, [0]) ∧
    answers (runs (scene .lockedOut) [.blockSegment 3])
      [(define 0 3, .inUse, [3]),
       (.removeTrack 0, .inUse, [3])] = true := by
  decide +kernel

theorem test_blocking :
    answers (scene .parked)
      [(.blockSegment 128, .refusedRange, []),
       (.unblockSegment 127, .refusedState, []),
       (.blockSegment 5, .refusedState, []),
       (.blockSegment 2, .inUse, [0]),
       (.blockSegment 0, .ok, [])] = true ∧
    ((runs (scene .parked) [.blockSegment 0]).segAt 0).map (·.base) = some .blocked ∧
    ((runs (scene .parked) [.blockSegment 0, .unblockSegment 0]).segAt 0).map (·.base) = some .free := by
  decide +kernel

theorem test_queries_at_the_ends_of_their_ranges :
    answers (scene .parked)
      [(.querySegment 2, .ok, [2, 1, 1, 0, 1, 2, 1, 21000, 1, 31000, 1, 1, 1, 0, 1, 0, 0, 0]),
       (.querySegment 127, .ok, [127, 0, 0, 0, 0, 0, 0, 0, 0, 0, 0]),
       (.querySegment 128, .refusedRange, [])] = true ∧
    answers State.reset
      [(.queryTrack 3, .ok, [0, 0, 0, 0, 0, 0, 0, 0, 0, 0, 128, 128, 1, 0]),
       (.queryTrack 4, .refusedRange, []),
       (.queryMover 12, .refusedRange, [])] = true ∧
    (statusOf State.reset (.queryMover 11)).map (·.1) = some .ok ∧
    answers State.reset
      [(.queryStation 0 1, .refusedRange, []),
       (.queryStation 33 1, .refusedRange, []),
       (.queryStation 32 3, .refusedRange, [])] = true ∧
    (statusOf State.reset (.queryStation 32 2)).map (·.1) = some .ok ∧
    (statusOf State.reset (.queryStation 1 1)).map (·.1) = some .ok := by
  decide +kernel

theorem test_other_queries :
    answers State.reset
      [(.queryQueue, .ok, [2, 0, 0, 0, 0]),
       (.queryProving, .ok, [20, 500, 0, 0, 0, 0, 0, 0, 20])] = true ∧
    (statusOf State.reset .queryWind).map (·.1) = some .ok ∧
    statusOf State.reset .queryAlerts = some (.ok, [0, 0, 1, 1, 0, 0, 0, 0, 1, 1, 0, 0, 0, 0, 0, 0, 1, 1, 0]) := by
  decide +kernel

/-! ### Premises met: holds -/

theorem test_hold_premises :
    (scene .parked).moverTrack 0 = some (0, sceneTrack true) ∧ (scene .parked).run 0 = some ⟨1, 2⟩ ∧
    (sceneTrack true).count = 5 ∧ ((scene .parked).mover 0).state.holding = true ∧
    ((scene .moving).mover 0).state.counting = true ∧ ((scene .moving).mover 0).dir = .plus := by
  decide +kernel

/-- The footprint is 19,000 to 21,000 mm: places 1 and 2. -/
theorem test_reserve_and_release_counts :
    answers (scene .parked)
      [(.reserve 0 1 64, .partialGrant, [2, 1, 1, 0, 1, 4, 1, 4, 51000]),
       (.reserve 0 2 1, .ok, [1, 0, 0, 0, 2, 0, 2, 31000])] = true ∧
    answers (runs (scene .parked) [.reserve 0 1 2])
      [(.release 0 1 64, .inUse, [2, 1, 2, 1, 2, 31000, 1, 1, 1, 2]),
       (.release 0 1 1, .ok, [1, 1, 3, 1, 3, 41000, 0, 0])] = true ∧
    statusOf (runs (scene .moving) [.reserve 0 2 1]) (.release 0 2 1) = some (.ok, [1, 1, 2, 1, 2, 31000, 0, 0]) ∧
    statusOf ((scene .parked).modMover 0 fun x => { x with reference := some 90000 }) (.release 0 1 2) = some (.inUse, [1, 1, 1, 1, 1, 21000, 1, 2, 1, 1]) := by
  decide +kernel

theorem test_run_requests_refused :
    answers (scene .parked)
      [(.reserve 12 1 1, .refusedRange, [1]),
       (.release 0 3 1, .refusedRange, [2]),
       (.reserve 0 0 1, .refusedRange, [2]),
       (.reserve 0 2 0, .refusedRange, [3]),
       (.release 0 1 65, .refusedRange, [3])] = true ∧
    statusOf (scene .enrolling) (.reserve 0 1 1) = some (.refusedState, [1]) ∧
    statusOf (scene .parked) (.release 11 1 1) = some (.refusedState, [0]) ∧
    statusOf (scene .moving) (.release 0 1 1) = some (.refusedState, [3]) ∧
    statusOf ((scene .moving).setRun 0 (some ⟨1, 1⟩)) (.release 0 2 1) = some (.refusedState, [3]) := by
  decide +kernel

/-- The scene with messages on their way to the Reservation Unit. -/
def told (st : MState) (messages : List SweepMessage) : State := { scene st with toReservation := messages }

theorem test_findings_taken :
    let found (index serial : Nat) := told .parked [.inconsistent 9 0, .consistent index serial 7]
    ((runs (found 2 0) [.consistentFinding 2]).segAt 2).map (·.proven) = some (some 7) ∧
    ((runs (found 2 1) [.consistentFinding 2]).segAt 2).map (·.proven) = some none ∧
    (runs (found 2 0) [.consistentFinding 2]).toReservation = [.inconsistent 9 0] ∧
    (runs (found 2 0) [.inconsistentFinding 2, .trailingRelease 2, .consistentFinding 3]).toReservation =
      [.inconsistent 9 0, .consistent 2 0 7] ∧
    ((runs (told .parked [.inconsistent 2 0]) [.inconsistentFinding 2]).segAt 2).map (·.suspect) = some true ∧
    (runs (told .parked [.inconsistent 127 0]) [.inconsistentFinding 127]).toReservation = [] := by
  decide +kernel

theorem test_trailing_releases_taken :
    (runs (told .moving [.trailing 1 0]) [.trailingRelease 1]).run 0 = some ⟨2, 2⟩ ∧
    ((runs (told .moving [.trailing 1 0]) [.trailingRelease 1]).segAt 1).map (·.holder) = some none ∧
    (runs (told .moving [.trailing 1 0]) [.consistentFinding 1, .inconsistentFinding 1]).toReservation = [.trailing 1 0] ∧
    (runs (told .parked [.trailing 1 0]) [.trailingRelease 1]).run 0 = some ⟨1, 2⟩ ∧
    (runs (told .moving [.trailing 2 0]) [.trailingRelease 2]).run 0 = some ⟨1, 2⟩ ∧
    (runs (told .moving [.trailing 3 0]) [.trailingRelease 3]).run 0 = some ⟨1, 2⟩ ∧
    (runs ((told .moving [.trailing 1 0]).setRun 0 (some ⟨1, 1⟩)) [.trailingRelease 1]).run 0 = some ⟨1, 1⟩ := by
  decide +kernel

/-! ### Premises met: movers -/

theorem test_configure_at_the_ends_of_its_ranges :
    answers (scene .lockedOut)
      [(.configureMover 0 plainRaw, .ok, [10]),
       (.configureMover 0 { plainRaw with creep := 50, vMax := 1 }, .ok, [1]),
       (.configureMover 0 { plainRaw with permit := 5000, exempt := 1, wind := 7, dwell := 60, resume := 50000 }, .ok, [10]),
       (.configureMover 12 plainRaw, .refusedRange, []),
       (.configureMover 0 { plainRaw with track := 4 }, .refusedRange, [2]),
       (.configureMover 0 { plainRaw with plusExtent := 200001 }, .refusedRange, [3]),
       (.configureMover 0 { plainRaw with brake := 4 }, .refusedRange, [7]),
       (.configureMover 0 { plainRaw with creep := 51, exempt := 2 }, .refusedRange, [10]),
       (.configureMover 0 { plainRaw with wind := 8 }, .refusedRange, [17]),
       (.configureMover 0 { plainRaw with exempt := 2 }, .refusedRange, [18])] = true ∧
    statusOf (scene .parked) (.configureMover 0 { plainRaw with track := 4 }) = some (.refusedState, [2]) := by
  decide +kernel

theorem test_unlock_checks :
    answers (scene .lockedOut) [(.unlock 0, .ok, []), (.unlock 12, .refusedRange, []), (.unlock 11, .refusedConfig, [255])] = true ∧
    statusOf (scene .held) (.unlock 0) = some (.refusedState, [6]) ∧
    statusOf State.reset (.unlock 0) = some (.refusedEstop, []) ∧
    statusOf (runs (scene .lockedOut) [.unassignStation 1]) (.unlock 0) = some (.refusedConfig, [0]) ∧
    statusOf (runs (scene .lockedOut) [.assignStation 3 0 3 (-1001) 10 2]) (.unlock 0) = some (.refusedConfig, [3]) ∧
    statusOf (runs (scene .lockedOut) [.assignStation 3 0 3 (-1000) 10 2]) (.unlock 0) = some (.ok, []) ∧
    ((runs (scene .lockedOut) [.unlock 0]).mover 0).enrolTimer = some 5000 := by
  decide +kernel

theorem test_lock_by_state :
    [MState.lockedOut, .enrolling, .parked, .queued, .starting, .moving, .held, .stopping, .faulted].map
        (fun st => statusOf (scene st) (.lock 0)) =
      [some (.ok, []), some (.ok, []), some (.ok, []), some (.refusedState, [3]), some (.refusedState, [4]),
        some (.refusedState, [5]), some (.refusedState, [6]), some (.refusedState, [7]), some (.ok, [])] ∧
    statusOf (scene .parked) (.lock 12) = some (.refusedRange, []) ∧
    ((runs (scene .parked) [.lock 0]).segAt 2).map (fun g => (g.holder, g.blocked)) = some (none, true) ∧
    (runs (scene .parked) [.lock 0]).run 0 = none ∧
    ((runs (scene .enrolling) [.lock 0]).mover 0).enrol = some .aborted := by
  decide +kernel

/-- The FAULTED scene with one station changed. -/
def faultedWith (row : StationNo) (f : Station → Station) : State := (scene .faulted).modStation row f

/-- A proving step that waits for station 1's transaction, with its request waiting or carried. -/
def proving (s : State) (row : StationNo) (carried : Bool) : State :=
  { s.modLink row fun l => { l with priority := !carried } with
    proving := { s.proving with cursor := 1, step := some { index := 1, serial := 0, awaited := row, since := 0 } } }

/-- LOCK drops the request, and the step completes on the part as it stands then: segment 1 BLOCKED, with no one on it (R105, R146). -/
theorem test_request_dropped_at_lock :
    let t := runs (proving (scene .parked) 0 false) [.lock 0]
    t.proving.step = none ∧ t.proving.cursor = 38 ∧ t.toReservation = [.consistent 1 0 0] ∧ (t.linkOf 0).priority = false ∧
    (runs (proving (scene .parked) 0 true) [.lock 0]).proving.step ≠ none ∧
    (runs (proving (scene .enrolling) 0 false) [.enrolTimerExpiry 0]).proving.step = none ∧
    (runs { proving (scene .enrolling) 0 false with openingsMovers := 1 } [.openingNoticeMovers]).proving.step = none := by
  decide +kernel

theorem test_reset_fault_checks :
    statusOf (scene .faulted) (.resetFault 0) = some (.ok, []) ∧
    statusOf (scene .faulted) (.resetFault 12) = some (.refusedRange, []) ∧
    statusOf State.reset (.resetFault 0) = some (.refusedEstop, []) ∧
    statusOf (scene .held) (.resetFault 0) = some (.refusedState, [6]) ∧
    statusOf (faultedWith 1 fun st => { st with state := .lost }) (.resetFault 0) = some (.refusedState, [2, 3]) ∧
    statusOf (faultedWith 2 fun st => { st with state := .busyHalted }) (.resetFault 0) = some (.refusedState, [3, 2]) ∧
    statusOf (faultedWith 2 fun st => { st with report := some { restReport 19500 with brake := .released } })
      (.resetFault 0) = some (.refusedState, [3, 2]) ∧
    (statusOf (faultedWith 0 fun st => { st with report := none }) (.resetFault 0)).map (·.1) = some .refusedState := by
  decide +kernel

/-- The footprint of a target t is t − 1,000 to t + 1,000 on a track from 1,000 to 51,000; the tolerance is 20. -/
theorem test_move_checks :
    answers (scene .parked)
      [(.move 12 30000 100, .refusedRange, []),
       (.move 0 30000 0, .refusedRange, []),
       (.move 0 1999 100, .refusedRange, []),
       (.move 0 2000 100, .ok, [100, 4, 0]),
       (.move 0 50000 300, .ok, [250, 4, 0]),
       (.move 0 50001 300, .refusedRange, []),
       (.move 0 20020 100, .done, []),
       (.move 0 20021 1, .ok, [1, 4, 0]),
       (.move 0 19979 250, .ok, [250, 4, 0]),
       (.move 11 30000 100, .refusedState, [])] = true ∧
    ((runs (scene .parked) [.move 0 19979 250]).mover 0).dir = .minus ∧
    statusOf (scene .enrolling) (.move 0 30000 100) = some (.refusedState, []) ∧
    statusOf (scene .stopping) (.move 0 30000 100) = some (.refusedState, []) ∧
    statusOf (scene .faulted) (.move 0 30000 100) = some (.refusedState, []) ∧
    statusOf (scene .moving) (.move 0 30000 300) = some (.ok, [250]) ∧
    statusOf (scene .moving) (.move 0 19979 300) = some (.refusedDirection, []) ∧
    statusOf (scene .queued) (.move 0 30000 300) = some (.ok, [250]) := by
  decide +kernel

/-- A mover without extents, at the end position of its track, overlaps no segment (R10, R61 check 4). -/
theorem test_move_to_the_very_end :
    let s := (scene .parked).modMover 0 fun x =>
      { x with config := some { sceneConfig with plusExtent := 0, minusExtent := 0 } }
    answers s [(.move 0 51000 100, .refusedRange, []), (.move 0 50999 100, .ok, [100, 4, 0]),
      (.move 0 999 100, .refusedRange, []), (.move 0 1000 100, .ok, [100, 4, 0])] = true := by
  decide +kernel

/-- On a track that ends at 1,000,000, a target there is taken from a mover without plus extent (log entry 30); one beyond it, or one
whose footprint reaches beyond it, is refused (R61 check 4). -/
theorem test_move_to_the_end_of_the_range :
    let s := (scene .parked).modMover 0 fun x =>
      { x with reference := some 970000, config := some { sceneConfig with plusExtent := 0 } }
    let far := { s with tracks := tset s.tracks 0 (some { sceneTrack true with start := 950000 }) }
    answers far [(.move 0 1000000 100, .ok, [100, 4, 0]), (.move 0 1000001 100, .refusedRange, [])] = true ∧
    (moverAfter far (.move 0 1000000 100)).target = some 1000000 ∧
    answers (far.modMover 0 fun x => { x with config := some { sceneConfig with plusExtent := 1 } })
      [(.move 0 1000000 100, .refusedRange, []), (.move 0 999999 100, .ok, [100, 4, 0])] = true := by
  decide +kernel

/-- The scene with the limit used up by another mover, in STORM, or with the chain open. -/
def crowded (st : MState) : State :=
  { (scene st).modMover 1 (fun x => { x with state := .moving, permitTimer := some 0 }) with arbiter := ⟨1, 1, []⟩ }
def stormy (st : MState) : State := (scene st).modChannel 0 fun c => { c with cls := .live .storm }
def opened (st : MState) : State := { scene st with inputs := { (scene st).inputs with chainOpen := true } }

theorem test_move_waits_or_is_refused :
    statusOf (crowded .parked) (.move 0 30000 100) = some (.ok, [100, 3, 1, 1]) ∧
    (runs (crowded .held) [.move 0 30000 100]).arbiter.queue = [{ mover := 0, since := 0 }] ∧
    statusOf (stormy .parked) (.move 0 30000 100) = some (.refusedWind, []) ∧
    statusOf ((stormy .parked).modMover 0 fun x => { x with config := some { sceneConfig with exempt := true } })
      (.move 0 30000 100) = some (.ok, [100, 4, 0]) ∧
    statusOf (opened .parked) (.move 0 30000 100) = some (.refusedEstop, []) ∧
    (scene .parked).windClass 0 = .calm ∧ (stormy .parked).windClass 0 = .storm := by
  decide +kernel

theorem test_stop_by_state :
    [MState.lockedOut, .enrolling, .parked, .queued, .starting, .moving, .held, .stopping, .faulted].map
        (fun st => statusOf (scene st) (.stop 0)) =
      [some (.ok, [0]), some (.ok, [1]), some (.ok, [2]), some (.ok, [2]), some (.ok, [7]), some (.ok, [7]), some (.ok, [2]),
        some (.ok, [7]), some (.ok, [8])] ∧
    statusOf (scene .moving) (.stop 12) = some (.refusedRange, []) ∧
    statusOf (scene .moving) .stopAll = some (.ok, [1, 0]) ∧ statusOf (scene .queued) .stopAll = some (.ok, [2, 0, 1]) ∧
    ((runs (scene .moving) [.stop 0]).mover 0).phase = some .braking ∧
    (runs (scene .queued) [.stop 0]).arbiter.queue = [] := by
  decide +kernel

theorem test_mover_timers :
    ((runs (scene .enrolling) [.enrolTimerExpiry 0]).mover 0).enrol = some .timeout ∧
    ((runs (scene .starting) [.startTimerExpiry 0]).mover 0).fault = some .startTimeout ∧
    ((runs (scene .moving) [.permitTimerExpiry 0]).mover 0).fault = some .permitExpired ∧
    ((runs (scene .moving) [.dwellTimerExpiry 0]).mover 0).stopReason = some .authority ∧
    ((runs (scene .stopping) [.stopTimerExpiry 0]).mover 0).fault = some .stopTimeout ∧
    (runs (scene .stopping) [.stopTimerExpiry 0]).arbiter.count = 0 := by
  decide +kernel

theorem test_mover_timers_not_due :
    ((runs (scene .parked) [.enrolTimerExpiry 0, .startTimerExpiry 0, .permitTimerExpiry 0, .dwellTimerExpiry 0,
      .stopTimerExpiry 0]).mover 0).state = .parked ∧
    ((runs (atTime (scene .starting) 4294967295) [.startTimerExpiry 0]).mover 0).state = .starting ∧
    ((runs (atTime (scene .starting) 2147483647) [.startTimerExpiry 0]).mover 0).state = .faulted ∧
    ((runs (atTime (scene .starting) 2147483648) [.startTimerExpiry 0]).mover 0).state = .starting := by
  decide +kernel

/-- The scene with notices on their way. -/
def noticed (st : MState) : State := { scene st with toMovers := [0, 5], openingsMovers := 1, openingsFieldLink := 2 }

theorem test_notices_taken :
    ((runs (noticed .moving) [.intrusionNotice 0]).mover 0).fault = some .intrusion ∧
    (runs (noticed .moving) [.intrusionNotice 0]).toMovers = [5] ∧
    ((runs (noticed .faulted) [.intrusionNotice 0]).mover 0).fault = some .skew ∧
    (runs (noticed .moving) [.intrusionNotice 5, .intrusionNotice 1]).toMovers = [0] ∧
    ((runs (noticed .queued) [.openingNoticeMovers]).mover 1).fault = some .estop ∧
    (runs (noticed .queued) [.openingNoticeMovers]).arbiter = ⟨1, 0, []⟩ ∧
    ((runs (noticed .enrolling) [.openingNoticeMovers]).mover 0).enrol = some .estop ∧
    (runs (noticed .moving) [.openingNoticeFieldLink]).link.broadcast = true ∧
    (runs (noticed .moving) [.openingNoticeFieldLink]).openingsFieldLink = 1 ∧
    (runs (scene .moving) [.openingNoticeMovers, .openingNoticeFieldLink]).link.broadcast = false ∧
    ((runs (scene .moving) [.openingNoticeMovers]).mover 0).state = .moving := by
  decide +kernel

/-! ### Premises met: stations, admission, proving -/

theorem test_assignments :
    answers (scene .lockedOut)
      [(.assignStation 0 0 1 0 10 0, .refusedRange, [1]),
       (.assignStation 33 0 1 0 10 0, .refusedRange, [1]),
       (.assignStation 32 12 1 0 10 0, .refusedRange, [2]),
       (.assignStation 32 0 0 0 10 0, .refusedRange, [3]),
       (.assignStation 32 0 4 0 10 0, .refusedRange, [3]),
       (.assignStation 32 0 3 (-200001) 10 0, .refusedRange, [4]),
       (.assignStation 32 0 3 200001 10 0, .refusedRange, [4]),
       (.assignStation 32 0 3 200000 10 17, .refusedRange, [6]),
       (.assignStation 32 0 3 (-200000) 9 16, .ok, [10, 1]),
       (.assignStation 1 0 1 0 1001 16, .ok, [1000, 2]),
       (.assignStation 32 0 1 0 10 0, .refusedConfig, [1]),
       (.unassignStation 0, .refusedRange, []),
       (.unassignStation 33, .refusedRange, []),
       (.unassignStation 32, .ok, []),
       (.unassignStation 1, .ok, [2])] = true := by
  decide +kernel

/-- Mover 0 with eight stations, at addresses 1 to 8. -/
def eightStations : State :=
  runs (scene .lockedOut) ((List.range 5).map fun i => .assignStation (i + 4) 0 3 0 10 0)

theorem test_assignments_by_state :
    answers (scene .parked)
      [(.assignStation 4 0 3 0 10 0, .refusedState, [0, 2]),
       (.assignStation 1 11 3 0 10 0, .refusedState, [0, 2]),
       (.unassignStation 1, .refusedState, [0, 2])] = true ∧
    answers eightStations [(.assignStation 9 0 3 0 10 0, .refusedConfig, [8]), (.assignStation 8 0 2 0 10 0, .ok, [10, 2])] =
      true := by
  decide +kernel

/-- The QUEUED scene: limit 1, count 1, mover 0 waiting. -/
theorem test_admission_limits :
    answers (scene .queued)
      [(.setAdmission 1, .ok, []), (.setAdmission 0, .ok, []), (.setAdmission 2, .ok, [2, 1, 0]),
       (.setAdmission 255, .ok, [12, 1, 0])] = true ∧
    statusOf { scene .queued with arbiter := ⟨3, 3, []⟩ } (.setAdmission 2) = some (.inUse, [3, 3]) ∧
    statusOf { scene .queued with arbiter := ⟨3, 2, []⟩ } (.setAdmission 2) = some (.ok, [2, 0]) ∧
    ((runs (scene .queued) [.setAdmission 12]).mover 0).startTimer = some 3000 := by
  decide +kernel

theorem test_proving_settings_clamped :
    answers State.reset
      [(.setProving 4 5001, .ok, [5, 5000]), (.setProving 1001 99, .ok, [1000, 100]),
       (.setProving 65535 65535, .ok, [1000, 5000]), (.setProving 200 500, .ok, [200, 500])] = true ∧
    statusOf State.reset .identify =
      some (.ok, [0x43, 0x56, 0x34, 0x32, 0x31, 0x30, 0x41, 4, 128, 12, 32, 8, 12, 3, 8, 2, 250]) := by
  decide +kernel

/-- A pending step, and an expiry that finds it. -/
def pendingStep : State :=
  { scene .moving with
    proving := { State.reset.proving with expiry := 0, cursor := 2, step := some { index := 2, serial := 0, awaited := 0, since := 0 } } }

theorem test_pending_step :
    (runs pendingStep [.provingTimerExpiry]).proving = { pendingStep.proving with expiry := 20 } ∧
    (runs { pendingStep with now := 4294967295 } [.provingTimerExpiry]).proving = pendingStep.proving ∧
    (pendingStep.noticeEnded 1).proving = pendingStep.proving ∧ (pendingStep.noticeEnded 0).proving.cursor = 39 ∧
    (pendingStep.noticeEnded 0).toReservation = [.consistent 2 0 0] ∧
    (({ pendingStep with tracks := State.reset.tracks } : State).noticeEnded 0).toReservation = [] := by
  decide +kernel

/-- No step pending: the lead report of mover 0 was at 0, the stale limit is 500. -/
def beginning (now : Time) (cursor : Nat) : State :=
  { scene .moving with now := now, proving := { State.reset.proving with expiry := now, cursor := cursor } }

theorem test_beginning_step :
    (runs (beginning 500 3) [.provingTimerExpiry]).proving.step = none ∧
    (runs (beginning 500 3) [.provingTimerExpiry]).toReservation = [.consistent 3 0 500] ∧
    (runs (beginning 501 3) [.provingTimerExpiry]).proving.step = some { index := 3, serial := 0, awaited := 0, since := 501 } ∧
    ((runs (beginning 501 3) [.provingTimerExpiry]).linkOf 0).priority = true ∧
    (runs (beginning 501 4) [.provingTimerExpiry]).toReservation = [.consistent 4 0 501] ∧
    (runs (beginning 501 127) [.provingTimerExpiry]).proving.cursor = 36 ∧
    (runs (beginning 501 5) [.provingTimerExpiry]).toReservation = [] := by
  decide +kernel

/-- Mover 0 at 32,000 mm stands in places 2 and 3; places 1 and 2 are its own. -/
def advanced : State := (scene .moving).modMover 0 fun x => { x with reference := some 32000 }

def advancedStations : State :=
  { advanced with stations := tmap (fun _ (st : Station) => { st with report := none }) advanced.stations }

def segOne : Seg := plainSeg (some 0)

theorem test_segment_evaluation :
    (advancedStations.evaluate 0 (sceneTrack true) 1 segOne).toReservation = [.consistent 1 0 0, .trailing 1 0] ∧
    (advancedStations.evaluate 0 (sceneTrack true) 2 segOne).toReservation = [.consistent 2 0 0] ∧
    (advanced.evaluate 0 (sceneTrack true) 1 segOne).toReservation = [.consistent 1 0 0] ∧
    (advancedStations.evaluate 0 (sceneTrack true) 3 (plainSeg none)).toReservation = [.inconsistent 3 0] ∧
    (advancedStations.evaluate 0 (sceneTrack true) 3 (plainSeg (some 7))).toMovers = [0, 7] := by
  decide +kernel

/-! ### Premises met: the field link -/

/-- Which station and command the next transaction takes. -/
def nextTransaction (s : State) : Option (StationNo × Command × Bool) :=
  (runs s [.transactionStart]).link.inFlight.map fun t => (t.station, t.command, t.seq)

theorem test_transaction_ranks :
    nextTransaction (scene .parked) = some (0, .hold, false) ∧
    nextTransaction ((scene .parked).modLink 0 fun l => { l with due := some 1 }) = some (1, .hold, false) ∧
    nextTransaction ((scene .parked).modStation 2 fun st => { st with urgent := true }) = some (2, .hold, false) ∧
    nextTransaction (((scene .parked).modStation 2 fun st => { st with urgent := true }).modLink 1
      fun l => { l with priority := true }) = some (1, .hold, false) ∧
    nextTransaction ((scene .moving).modLink 0 fun l => { l with retry := some (.drive 5 true, true) }) =
      some (0, .drive 5 true, true) := by
  decide +kernel

theorem test_transactions_by_state :
    nextTransaction ((scene .faulted).modStation 0 fun st => { st with state := .lost }) = some (0, .ident, false) ∧
    nextTransaction ((scene .faulted).modStation 0 fun st => { st with state := .busyHalted }) = some (0, .sample, false) ∧
    nextTransaction (scene .lockedOut) = none ∧
    nextTransaction { scene .parked with link := { (scene .parked).link with broadcast := true } } = none ∧
    ((runs ((scene .parked).modStation 2 fun st => { st with urgent := true }) [.transactionStart]).station 2).urgent = false := by
  decide +kernel

theorem test_line_moves :
    (runs (scene .parked) [.transactionStart, .commandFrameEnd]).link.line = .window ∧
    (runs (scene .parked) [.transactionStart, .transactionStart]).link.line =
      .command (commandFrame 1 .hold false) ∧
    (runs (scene .parked) [.commandFrameEnd, .broadcastHoldEnd, .broadcastHoldStart]).link.line = .idle ∧
    (runs { scene .parked with link := { (scene .parked).link with broadcast := true } } [.broadcastHoldStart]).link.line =
      .broadcast broadcastFrame ∧
    (runs { scene .parked with link := { (scene .parked).link with broadcast := true } }
      [.broadcastHoldStart, .broadcastHoldEnd]).link.line = .idle := by
  decide +kernel

theorem test_awaiting_premises :
    let t : Transaction := { station := 2, command := .hold, seq := false, generation := 1, priority := false }
    (asking .parked 2 .hold).awaits t ∧ (asking .parked 2 .hold).linkOf 2 = { Link.atReset with due := some 0 } := by
  unfold State.awaits
  decide +kernel

/-- A transaction whose station has been struck twice. -/
def twice (st : MState) : State := (asking st 2 .hold).modLink 2 fun l => { l with attempts := 2 }

theorem test_attempts_fail :
    linkFields (runs (asking .parked 2 .hold) [.answerBreak]) 2 = (false, 1, some (.hold, false), some 0) ∧
    ((runs (twice .parked) [.answerBreak]).mover 0).fault = some .stationLost ∧
    ((runs (twice .enrolling) [.answerBreak]).mover 0).enrol = some .station ∧
    ((runs (twice .faulted) [.answerBreak]).mover 0).fault = some .skew ∧
    ((runs (twice .faulted) [.answerBreak]).station 2).state = .lost := by
  decide +kernel

/-- The scene with the window of a transaction that carries the priority request of a pending step. -/
def marked (s : State) (row : StationNo) : State :=
  { proving s row true with link := { s.link with inFlight := s.link.inFlight.map fun t => { t with priority := true } } }

/-- The step completes at the end of the transaction that carried the request, whatever else the ending does (R106, R147). -/
theorem test_marked_endings :
    (runs (marked (asking .parked 2 .hold) 2) [.answerBreak]).proving.step = none ∧
    ((runs (marked (twice .parked) 2) [.answerBreak]).mover 0).fault = some .stationLost ∧
    (runs (marked (twice .parked) 2) [.answerBreak]).proving.step = none ∧
    (runs (marked (twice .enrolling) 2) [.answerBreak]).toReservation = [.consistent 1 0 0] ∧
    (runs (marked (asking .enrolling 2 .ident) 2) [.lock 0, .answerBreak]).proving.last = some 0 ∧
    ((runs (marked (asking .enrolling 2 .ident) 2) [.lock 0]).link.inFlight.map (·.priority)) = some false := by
  decide +kernel

theorem test_endings_that_do_not_match :
    [linkFields (runs ((asking .parked 2 .hold).modStation 2 fun st => { st with generation := 2 }) [.answerBreak]) 2,
      linkFields (runs (asking .lockedOut 2 .hold) [.answerWindowClosed]) 2,
      linkFields (runs (scene .parked) [.answerWindowClosed, .answerBreak]) 2] =
      [(false, 0, none, some 0), (false, 0, none, none), (false, 0, none, some 0)] := by
  decide +kernel

/-- Mover 0's busy limit is 2. -/
theorem test_busy_answers :
    linkFields (runs (asking .parked 2 .hold) [.fieldAnswerReceived (busyFrame 3)]) 2 = (false, 0, none, some 20) ∧
    ((runs ((asking .parked 2 .hold).modLink 2 fun l => { l with busy := 1 }) [.fieldAnswerReceived (busyFrame 3)]).mover 0).fault =
      some .busyTimeout ∧
    ((runs ((asking .parked 2 .hold).modLink 2 fun l => { l with busy := 1 }) [.fieldAnswerReceived (busyFrame 3)]).station 2).state =
      .busyHalted ∧
    ((runs ((asking .faulted 2 .hold).modLink 2 fun l => { l with busy := 65535 }) [.fieldAnswerReceived (busyFrame 3)]).linkOf 2).busy =
      65535 := by
  decide +kernel

/-- A report's bytes from station row a. -/
def answering (a : StationNo) (seq : Bool) (r : Report) : Instr := .fieldAnswerReceived (reportFrame (a.val + 1) seq r)

/-- A report of the given position, speed and brake state. -/
def plainReport (position : Nat) (speed : Int) (brake : Brake) : Report :=
  { restReport position with speed := speed, brake := brake }

theorem test_reporting_premises :
    let t : Transaction := { station := 0, command := .sample, seq := false, generation := 1, priority := false }
    (asking .moving 0 .sample).reports t (reportFrame 1 false (plainReport 20000 50 .released)) (plainReport 20000 50 .released) ∧
      (asking .moving 0 .sample).leadOf 0 = some 0 := by
  unfold State.reports State.awaits
  decide +kernel

/-- The premises of the statements on reports, on a transaction that carries a priority request, for each role and state. -/
theorem test_marked_reporting_premises :
    ∀ st ∈ [MState.parked, .queued, .starting, .moving, .stopping, .held, .faulted], ∀ row ∈ [(0 : StationNo), 1, 2],
      let s := marked (asking st row .sample) row
      let t : Transaction := { station := row, command := .sample, seq := false, generation := 1, priority := true }
      s.reports t (reportFrame (row.val + 1) false (plainReport 20000 50 .released)) (plainReport 20000 50 .released) ∧
        s.resetLow = false ∧ s.ArbiterAgrees ∧ (s.mover 0).config = some sceneConfig := by
  unfold State.reports State.awaits State.ArbiterAgrees
  decide +kernel

theorem test_reports_judged :
    [answering 0 false (restReport 20000), answering 0 true (restReport 20000), answering 1 false (restReport 20000)].map
        (fun c => linkFields (runs (asking .parked 0 .hold) [c]) 0) =
      [(true, 0, none, some 20), (false, 1, some (.hold, false), some 0), (false, 1, some (.hold, false), some 0)] := by
  decide +kernel

def recovering (cap : Capability) : State :=
  { (asking .faulted 0 .ident).modStation 0 fun st => { st with state := .lost, capability := some cap } with now := 7 }

theorem test_recovery :
    ((runs (recovering .driveBrake) [answering 0 false { restReport 20000 with capability := some .driveBrake }]).station 0).state =
      .active ∧
    ((runs (recovering .brakeOnly) [answering 0 false { restReport 20000 with capability := some .driveBrake }]).station 0).state =
      .lost ∧
    ((runs (recovering .brakeOnly) [answering 0 false { restReport 20000 with capability := some .driveBrake }]).linkOf 0).due =
      some 1007 ∧
    ((runs (recovering .driveBrake)
      [answering 0 false { restReport 20000 with capability := some .driveBrake, faultCode := 1 }]).station 0).state = .lost := by
  decide +kernel

/-- The MOVING scene's target is 40,000, its authority end 31,000, its tolerance 20, standoff 500. -/
def movingTo (target : Nat) : State := (asking .moving 0 .sample).modMover 0 fun x => { x with target := some target }

theorem test_lead_reports_in_moving :
    (moverAfter (movingTo 40000) (answering 0 false (plainReport 30001 50 .released))).fault = some .overrun ∧
    (moverAfter (movingTo 40000) (answering 0 false (plainReport 30000 50 .released))).state = .moving ∧
    (moverAfter (movingTo 20020) (answering 0 false (plainReport 20000 2 .released))).stopReason = some .arrived ∧
    (moverAfter (movingTo 20020) (answering 0 false (plainReport 20000 3 .released))).state = .moving ∧
    (moverAfter (movingTo 20021) (answering 0 false (plainReport 20000 2 .released))).velocity = 1 ∧
    (moverAfter (movingTo 40000) (answering 0 false (plainReport 29500 2 .released))).dwellTimer = some 0 ∧
    (moverAfter ((movingTo 40000).modMover 0 fun x => { x with dwellTimer := none })
      (answering 0 false (plainReport 29500 2 .released))).dwellTimer = some 5000 ∧
    (moverAfter (movingTo 40000) (answering 0 false (plainReport 29499 2 .released))).dwellTimer = none ∧
    (moverAfter (movingTo 40000) (answering 0 false (plainReport 20000 2 .released))).permitTimer = some 1000 := by
  decide +kernel

/-- The set of stations that have shown the state awaited. -/
def joinedBy (st : MState) (row : StationNo) (set : List StationNo) : State :=
  (asking st row .sample).modMover 0 fun x => { x with progress := set }

theorem test_starting_reports :
    (moverAfter (joinedBy .starting 2 [0, 1]) (answering 2 false (plainReport 19500 0 .released))).state = .moving ∧
    (moverAfter (joinedBy .starting 2 [0, 1]) (answering 2 false (plainReport 19500 0 .released))).velocity = 1 ∧
    (moverAfter (joinedBy .starting 2 [0]) (answering 2 false (plainReport 19500 0 .released))).progress = [0, 2] ∧
    (moverAfter (joinedBy .starting 2 [0, 1]) (answering 2 false (plainReport 19500 0 .transit))).progress = [0, 1] ∧
    (moverAfter (joinedBy .starting 0 [1, 2]) (answering 0 false (plainReport 30001 0 .released))).fault = some .overrun ∧
    (moverAfter (joinedBy .starting 2 []) (answering 2 false { restReport 19500 with faultCode := 1 })).fault =
      some .stationFault ∧
    (moverAfter (joinedBy .parked 0 []) (answering 0 false { restReport 0 with position := none })).fault = some .stationFault ∧
    (moverAfter (joinedBy .parked 0 []) (answering 0 false (restReport 20100))).reference = some 20100 := by
  decide +kernel

/-- The STOPPING scene in BRAKING. -/
def brakingBy (reason : StopReason) (row : StationNo) (set : List StationNo) : State :=
  (joinedBy .stopping row set).modMover 0 fun x => { x with phase := some .braking, stopReason := some reason }

theorem test_stopping_reports :
    (moverAfter (joinedBy .stopping 0 []) (answering 0 false (plainReport 20000 2 .released))).phase = some .braking ∧
    (moverAfter (joinedBy .stopping 0 []) (answering 0 false (plainReport 20000 3 .released))).phase = some .rundown ∧
    (moverAfter (joinedBy .stopping 0 []) (answering 0 false (plainReport 30001 3 .released))).fault = some .overrun ∧
    (moverAfter (brakingBy .stopRequest 2 [0, 1]) (answering 2 false (restReport 19500))).state = .parked ∧
    (moverAfter (brakingBy .authority 2 [0, 1]) (answering 2 false (restReport 19500))).state = .held ∧
    (moverAfter (brakingBy .authority 2 [1]) (answering 2 false (restReport 19500))).progress = [1, 2] ∧
    (moverAfter (brakingBy .authority 2 [1]) (answering 2 false (plainReport 19500 0 .transit))).progress = [1] ∧
    (runs (brakingBy .authority 2 [0, 1]) [answering 2 false (restReport 19500)]).arbiter.count = 0 := by
  decide +kernel

/-- The HELD scene resumes at an authority distance of 2,000: authority end 31,000, front 28,500. -/
theorem test_resume_reports :
    (moverAfter (asking .held 0 .sample) (answering 0 false (restReport 27500))).state = .starting ∧
    (moverAfter (asking .held 0 .sample) (answering 0 false (restReport 27501))).state = .held ∧
    (moverAfter { asking .held 0 .sample with arbiter := ⟨1, 1, []⟩ } (answering 0 false (restReport 27500))).state = .queued ∧
    (moverAfter ((asking .held 0 .sample).modChannel 0 fun c => { c with cls := .live .storm })
      (answering 0 false (restReport 20000))).state = .held := by
  decide +kernel

/-- The lead stands at 20,000 at rest; the follower's offset is 500, the skew limit 100, the gain 8. -/
def skewed (now : Time) : State := { (asking .moving 1 .sample).modMover 0 fun x => { x with velocity := 50 } with now := now }

def standingAfter (s : State) (c : Instr) : Option Command × Int := (((runs s [c]).station 1).standing, ((runs s [c]).station 1).trim)

theorem test_follower_reports :
    standingAfter (skewed 500) (answering 1 false (plainReport 20543 0 .released)) = (some (.drive 29 true), 21) ∧
    standingAfter (skewed 501) (answering 1 false (plainReport 20543 0 .released)) = (some driveZero, 0) ∧
    standingAfter (skewed 0) (answering 1 false (plainReport 20600 0 .released)) = (some (.drive 20 true), 30) ∧
    (moverAfter (skewed 0) (answering 1 false (plainReport 20601 0 .released))).fault = some .skew ∧
    (moverAfter (skewed 501) (answering 1 false (plainReport 20601 0 .released))).fault = none := by
  decide +kernel

/-- A follower that completes the set in STARTING is judged on the records of MOVING; in STOPPING its trim alone is written, and a
skew beyond the limit faults, also on the report that ends the stop (R91, R96, log entry 9). -/
theorem test_follower_reports_in_starting_and_stopping :
    standingAfter (joinedBy .starting 1 [0, 2]) (answering 1 false (plainReport 20543 0 .released)) = (some (.drive 0 true), 21) ∧
    (moverAfter (joinedBy .starting 1 [0, 2]) (answering 1 false (plainReport 20543 0 .released))).state = .moving ∧
    (moverAfter (joinedBy .starting 1 [0, 2]) (answering 1 false (plainReport 20601 0 .released))).fault = some .skew ∧
    (moverAfter (joinedBy .starting 1 []) (answering 1 false (plainReport 20601 0 .applied))).fault = some .skew ∧
    standingAfter (joinedBy .stopping 1 []) (answering 1 false (plainReport 20543 0 .released)) = (some driveZero, 21) ∧
    standingAfter (brakingBy .stopRequest 1 [0, 2]) (answering 1 false (restReport 20543)) = (some .hold, 21) ∧
    (moverAfter (brakingBy .stopRequest 1 [0, 2]) (answering 1 false (restReport 20543))).state = .parked ∧
    (moverAfter (brakingBy .stopRequest 1 [0, 2]) (answering 1 false (restReport 20601))).fault = some .skew := by
  decide +kernel

/-- Reports that only file, and in FAULTED set the lead's reference position (R40, R59). -/
theorem test_reports_that_only_file :
    moverAfter (asking .faulted 0 .hold) (answering 0 false { restReport 20100 with faultCode := 3 }) =
      { (scene .faulted).mover 0 with reference := some 20100 } ∧
    moverAfter (asking .faulted 1 .hold) (answering 1 false (restReport 20700)) = (scene .faulted).mover 0 ∧
    moverAfter (asking .moving 2 .sample) (answering 2 false (plainReport 19500 9 .applied)) = (scene .moving).mover 0 ∧
    moverAfter (asking .held 1 .hold) (answering 1 false (restReport 20700)) = (scene .held).mover 0 ∧
    moverAfter (asking .held 2 .hold) (answering 2 false (restReport 19500)) = (scene .held).mover 0 := by
  decide +kernel

/-- Answers to SAMPLE in ENROLLING (R46): a lead report sets the reference position and joins no set; a fault code ends the enrol. -/
theorem test_samples_in_enrolling :
    moverAfter (asking .enrolling 0 .sample) (answering 0 false (restReport 20100)) =
      { (scene .enrolling).mover 0 with reference := some 20100, leadTime := some 0 } ∧
    moverAfter (asking .enrolling 1 .sample) (answering 1 false (restReport 20600)) = (scene .enrolling).mover 0 ∧
    (moverAfter (asking .enrolling 1 .sample) (answering 1 false { restReport 20600 with faultCode := 3 })).enrol = some .station ∧
    (moverAfter (asking .enrolling 1 .sample) (answering 1 false { restReport 0 with position := none })).enrol = some .position := by
  decide +kernel

/-- The last station of an ENROLLING mover answers IDENT; the other two have. -/
def enrolling (lead : Option Int) (set : List StationNo) : State :=
  { (asking .enrolling 2 .ident).modMover 0 fun x => { x with progress := set, reference := lead } with
    tracks := tset State.reset.tracks 0 (some (sceneTrack false)) }

def identReport (position : Nat) (brake : Brake) : Report := { plainReport position 0 brake with capability := some .brakeOnly }

def enrolled (s : State) (r : Report) : MState × Option EnrolResult × Option (Nat × Nat) :=
  let t := runs s [answering 2 false r]
  ((t.mover 0).state, (t.mover 0).enrol, (t.run 0).map fun r => (r.low, r.high))

theorem test_enrol_completes :
    enrolled (enrolling (some 19999) [0, 1]) (identReport 19500 .applied) = (.parked, some .ok, some (1, 1)) ∧
    enrolled (enrolling (some 20000) [0, 1]) (identReport 19500 .applied) = (.parked, some .ok, some (1, 2)) ∧
    enrolled (enrolling (some 20000) [0]) (identReport 19500 .applied) = (.enrolling, none, none) := by
  decide +kernel

theorem test_enrol_fails :
    enrolled (enrolling (some 20000) [0, 1]) (identReport 19500 .released) = (.lockedOut, some .brakeState, none) ∧
    enrolled (enrolling none [0, 1]) (identReport 19500 .applied) = (.lockedOut, some .position, none) ∧
    enrolled (enrolling (some 1999) [0, 1]) (identReport 19500 .applied) = (.lockedOut, some .position, none) ∧
    enrolled (enrolling (some 2000) [0, 1]) (identReport 19500 .applied) = (.parked, some .ok, some (0, 0)) := by
  decide +kernel

/-- The track undefined at the last answer to IDENT (R28 case 1, R38), and at an answer to SAMPLE; a report that joins, fails
otherwise or sets the reference position does as on a defined track. -/
theorem test_enrol_on_an_undefined_track :
    let off := fun (s : State) => { s with tracks := State.reset.tracks }
    enrolled (off (enrolling (some 20000) [0, 1])) (identReport 19500 .applied) = (.lockedOut, some .position, none) ∧
    enrolled (off (enrolling (some 20000) [0])) (identReport 19500 .applied) = (.enrolling, none, none) ∧
    enrolled (off (enrolling (some 20000) [0, 1])) (identReport 19500 .released) = (.lockedOut, some .brakeState, none) ∧
    enrolled (off (enrolling (some 20000) [0, 1])) { identReport 19500 .applied with faultCode := 1 } =
      (.lockedOut, some .station, none) ∧
    (moverAfter (off (asking .enrolling 0 .sample)) (answering 0 false (restReport 20100))).reference = some 20100 := by
  decide +kernel

theorem test_enrol_fails_otherwise :
    enrolled ((enrolling (some 20000) [0, 1]).modStation 1 fun st => { st with capability := some .brakeOnly })
      (identReport 19500 .applied) = (.lockedOut, some .capability, none) ∧
    enrolled (runs (enrolling (some 20001) [0, 1]) [.blockSegment 2]) (identReport 19500 .applied) =
      (.lockedOut, some (.footprint 2), none) ∧
    enrolled (enrolling (some 20000) [0, 1]) { identReport 19500 .applied with faultCode := 1 } =
      (.lockedOut, some .station, none) ∧
    enrolled (enrolling (some 20000) [0, 1]) { identReport 0 .applied with position := none } =
      (.lockedOut, some .position, none) := by
  decide +kernel

/-! ### Premises met: wind, inputs, the port -/

/-- The scene at 250 ms with the channel that mover 0 selects changed. -/
def windy (st : MState) (f : Channel → Channel) : State := { (scene st).modChannel 0 f with now := 250 }

def channelAfter (s : State) (high : Bool) : Channel := tget (runs s [.windSample 0 high]).wind.channels 0

theorem test_pulses_and_samples :
    (tget (runs (windy .parked fun c => { c with pulses := 65534 }) [.anemometerPulse 0, .anemometerPulse 0]).wind.channels 0).pulses =
      65535 ∧
    (channelAfter (atTime (windy .parked fun c => { c with pulses := 7 }) 249) true).pulses = 7 ∧
    (channelAfter (windy .parked fun c => { c with pulses := 7 }) true).raw = some 7 ∧
    (channelAfter (windy .parked fun c => { c with pulses := 7 }) true).due = 500 ∧
    (channelAfter (windy .parked fun c => { c with pulses := 7 }) true).samples = 1 := by
  decide +kernel

theorem test_dead_channels :
    (channelAfter (windy .moving id) false).cls = .dead ∧
    (moverAfter (windy .moving id) (.windSample 0 false)).stopReason = some .wind ∧
    (channelAfter (windy .moving fun c => { c with dead := true, cls := .dead, pulses := 9 }) false).raw = some 9 ∧
    (channelAfter (windy .moving fun c => { c with dead := true, cls := .dead }) true).provisional = true ∧
    (channelAfter (windy .moving fun c => { c with dead := true, cls := .dead }) true).cls = .live .storm := by
  decide +kernel

theorem test_gusts_and_windows :
    (channelAfter (windy .moving fun c => { c with pulses := 249 }) true).cls = .live .calm ∧
    (channelAfter (windy .moving fun c => { c with pulses := 250 }) true).gustTrip = true ∧
    (moverAfter (windy .moving fun c => { c with pulses := 250 }) (.windSample 0 true)).state = .stopping ∧
    (moverAfter (windy .queued fun c => { c with pulses := 250 }) (.windSample 0 true)).state = .parked ∧
    (moverAfter (windy .held fun c => { c with pulses := 250 }) (.windSample 0 true)).state = .held := by
  decide +kernel

/-- The sixteenth sample of a window, with the squares so far and the count given. -/
def sixteenth (sumSq pulses : Nat) : ChannelClass :=
  (channelAfter
    (windy .parked fun c => { c with samples := 15, sumSq := sumSq, winMin := some 0, winMax := some 0, pulses := pulses }) true).cls

theorem test_window_thresholds :
    sixteenth 57599 0 = .live .calm ∧ sixteenth 57600 0 = .live .breezy ∧ sixteenth 0 179 = .live .calm ∧
    sixteenth 0 180 = .live .strong ∧ sixteenth 230400 0 = .live .strong ∧ sixteenth 518400 0 = .live .storm := by
  decide +kernel

/-- The settings of the reset with one out of its range or order. -/
theorem test_wind_settings_at_the_ends_of_their_ranges :
    let w := windSettingsAtReset
    answers State.reset
      [(.setWind { w with scale0 := 0 }, .refusedRange, [1]), (.setWind { w with scale2 := 4096 }, .refusedRange, [3]),
       (.setWind { w with window := 256 }, .refusedRange, [4]), (.setWind { w with breezyQ := 0 }, .refusedRange, [5]),
       (.setWind { w with stormGust := 1000 }, .refusedRange, [9]), (.setWind { w with hysteresis := 100 }, .refusedRange, [10]),
       (.setWind { w with breezyQ := 121 }, .refusedRange, [11]), (.setWind { w with strongQ := 181 }, .refusedRange, [12]),
       (.setWind { w with strongGust := 251 }, .refusedRange, [13]),
       (.setWind { w with breezyQ := 120, strongQ := 120, strongGust := 250, hysteresis := 99, window := 255 }, .ok,
         [64, 64, 64, 255, 120, 120, 250, 180, 250, 99])] = true ∧
    windFailure w = none := by
  decide +kernel

/-- The scene with the classes of W0 and W1, mover 0 selecting by the given set. -/
def classed (set : Nat) (k0 k1 : ChannelClass) : State :=
  (((scene .parked).modChannel 0 fun c => { c with cls := k0 }).modChannel 1 fun c => { c with cls := k1 }).modMover 0
    fun x => { x with config := some { sceneConfig with wind := set } }

theorem test_wind_classes_of_a_mover :
    (classed 0 .dead (.live .storm)).windClass 0 = .calm ∧ (classed 3 .dead .dead).windClass 0 = .storm ∧
    (classed 3 .dead (.live .breezy)).windClass 0 = .breezy ∧ (classed 3 (.live .calm) (.live .strong)).windClass 0 = .strong ∧
    (classed 1 (.live .calm) (.live .strong)).windClass 0 = .calm := by
  decide +kernel

def wet : State := runs State.reset [.rainInputChange true, .estopInputChange true]

/-- Wet for 2,000 ms and the chain closed for 100 ms; then dry for 60,000 ms and the chain open for 5 ms. -/
def raining : State := runs (atTime wet 2000) [.rainOnExpiry, .chainClosed]

def drying : State := runs raining [.rainInputChange false, .estopInputChange false]

theorem test_inputs_conditioned :
    wet.inputs.rainTimer = some 2000 ∧ wet.inputs.chainTimer = some 100 ∧
    (runs (atTime wet 1999) [.rainOnExpiry, .rainOffExpiry]).inputs.rainActive = false ∧
    raining.inputs.rainActive = true ∧ raining.inputs.chainOpen = false ∧
    drying.inputs.rainTimer = some 62000 ∧ drying.inputs.chainTimer = some 2005 ∧
    (runs (atTime drying 61999) [.rainOffExpiry]).inputs.rainActive = true ∧
    (runs (atTime drying 62000) [.rainOffExpiry, .chainOpen]).inputs.rainActive = false ∧
    (runs (atTime drying 2005) [.chainOpen]).inputs.lastOpening = some 2005 ∧
    (runs (atTime drying 2004) [.chainOpen]).inputs.chainOpen = false ∧
    (runs drying [.rainInputChange true]).inputs.rainTimer = none := by
  decide +kernel

theorem test_acknowledgements :
    answers raining [(.ackAlerts 0, .ok, [0, 1]), (.ackAlerts 0x04, .ok, [1, 4, 1]), (.ackAlerts 255, .ok, [2, 2, 4, 1])] = true ∧
    latches (runs raining [.ackAlerts 0x10]) = [.storm, .rain] := by
  decide +kernel

/-- IDENTIFY with tag 7, its answer, and ports that are sending. -/
def identifyFrame : List Byte := supervisoryFrame 7#8 0x7F#8 []

def sendingWith (waiting : Nat) : State :=
  { State.reset with
    port :=
      { receiver := .hunting, buffer := List.replicate waiting { tag := 7#8, code := 0x25#8, body := [] }, sending := some [0#8] } }

/-- The port after bytes on the line in a row. -/
def heard (s : State) (line : List LineByte) : State :=
  runs s [.frameReceived line.dropLast (line.getLast?.getD ⟨0#8, true⟩)]

theorem test_frames_taken :
    (heard State.reset (clean identifyFrame)).port.sending =
      some (answerFrame 7#8 { code := 0x7F#8, status := .ok, items := identifyItems }) ∧
    (heard State.reset (clean (supervisoryFrame 9#8 0x07#8 []))).answer =
      some { code := 0x07#8, status := .badRequest, items := [u8 1] } ∧
    (heard State.reset (clean (supervisoryFrame 9#8 0x24#8 []))).answer =
      some { code := 0x24#8, status := .badRequest, items := [u8 2, u8 1] } ∧
    (heard State.reset ((clean identifyFrame).set 3 ⟨0x7F#8, true⟩)).port = State.reset.port ∧
    (heard State.reset (clean (identifyFrame.set 2 8#8))).port = State.reset.port := by
  decide +kernel

theorem test_frames_waiting :
    (heard (sendingWith 1) (clean identifyFrame)).port.buffer.length = 2 ∧
    (heard (sendingWith 2) (clean identifyFrame)).port.buffer = (sendingWith 2).port.buffer ∧
    (runs (sendingWith 0) [.answerSent]).port.sending = none ∧
    (runs (sendingWith 2) [.answerSent]).port.buffer.length = 1 ∧
    (runs (sendingWith 2) [.answerSent]).answer = some { code := 0x25#8, status := .ok, items := [u8 0] } ∧
    (runs State.reset [.answerSent]).port = State.reset.port := by
  decide +kernel

/-- Noise and byte errors outside a frame are passed over; a frame may come in parts, and bytes of 0x5A inside it begin nothing
(R173, R174). -/
theorem test_frames_hunted :
    (heard (sendingWith 0) (⟨0x5A#8, true⟩ :: clean [0#8, 0x5B#8] ++ clean identifyFrame)).port.buffer.length = 1 ∧
    (heard State.reset (clean (identifyFrame.take 3))).port.receiver = .inFrame [0x5A#8, 2#8, 7#8] false ∧
    (heard (heard (sendingWith 0) (clean (identifyFrame.take 3))) (clean (identifyFrame.drop 3))).port.buffer.length = 1 ∧
    (heard (sendingWith 0) (clean (supervisoryFrame 0x5A#8 0x25#8 []))).port.buffer = [⟨0x5A#8, 0x25#8, []⟩] ∧
    (heard State.reset [⟨0x5A#8, false⟩, ⟨3#8, true⟩]).port.receiver = .inFrame [0x5A#8, 3#8] true := by
  decide +kernel

/-- The length byte at its limits; hunting resumes with the byte after it, and a stray 0x5A there begins a frame that swallows the
next one's bytes (R174). -/
theorem test_frames_dropped :
    [1, 2, 252, 253].map (fun n => (heard (sendingWith 0) (clean [0x5A#8, n])).port.receiver) =
      [.hunting, .inFrame [0x5A#8, 2#8] false, .inFrame [0x5A#8, 252#8] false, .hunting] ∧
    (heard (sendingWith 0) (clean ([0x5A#8, 0#8] ++ identifyFrame))).port.buffer.length = 1 ∧
    (heard (sendingWith 0) (clean ([0x5A#8, 0#8, 0x5A#8, 4#8] ++ identifyFrame))).port.receiver = .hunting ∧
    (heard (sendingWith 0) (clean ([0x5A#8, 0#8, 0x5A#8, 4#8] ++ identifyFrame))).port.buffer = [] ∧
    (runs (sendingWith 0) [.frameLengthDrop (clean [0x5A#8, 253#8])]).port = (sendingWith 0).port := by
  decide +kernel

/-- The gap drops the frame under way, and the frame after it is received whole (R174). -/
theorem test_frames_cut_by_a_gap :
    let cut := runs (heard (sendingWith 0) (clean (identifyFrame.take 4))) [.frameGapTimeout]
    cut.port = (sendingWith 0).port ∧ (heard cut (clean (identifyFrame.drop 4))).port = (sendingWith 0).port ∧
    (heard cut (clean identifyFrame)).port.buffer.length = 1 ∧
    (runs (sendingWith 0) [.frameGapTimeout]).port = (sendingWith 0).port := by
  decide +kernel

theorem test_full_reset :
    (runs (atTime (scene .moving) 77) [.fullReset]).resetLow = true ∧
    runs (atTime (scene .moving) 77) [.fullReset, .resetInputReleased] = State.reset ∧
    (runs (scene .moving) [.fullReset, .stopAll, .rainInputChange true, .resetInputReleased]).inputs.rainTimer = some 2000 ∧
    runs (scene .moving) [.resetInputReleased] = scene .moving := by
  decide +kernel

/-! ### Premises met together, where they are many -/

theorem test_move_premises :
    ∀ st ∈ [MState.parked, .held, .queued, .starting, .moving, .stopping, .faulted],
      ((scene st).mover 0).config = some sceneConfig ∧ (scene st).moverTrack 0 = some (0, sceneTrack true) ∧
      ((scene st).mover 0).reference = some 20000 ∧ (scene st).inputs.chainOpen = false ∧ (scene st).windClass 0 = .calm ∧
      ((sceneTrack true).start : Int) ≤ 2000 - sceneConfig.minusExtent ∧
      (∃ p < 5, (sceneTrack true).overlaps (2000 - sceneConfig.minusExtent) (2000 + sceneConfig.plusExtent) p = true) ∧
      (50000 : Int) + sceneConfig.plusExtent ≤ (sceneTrack true).endPos ∧ sceneConfig.tolerance < ((20021 : Int) - 20000).natAbs := by
  decide +kernel

def windowOf (row : StationNo) (c : Command) : Transaction :=
  { station := row, command := c, seq := false, generation := 1, priority := false }

theorem test_lead_report_premises :
    let s := asking .moving 0 .sample
    let r := plainReport 20000 2 .released
    s.reports (windowOf 0 .sample) (reportFrame 1 false r) r ∧ s.resetLow = false ∧ s.ArbiterAgrees ∧
      (s.station 0).assign = some { mover := 0, role := .lead, offset := 0, poll := 20, busyExp := 2 } ∧
      (s.mover 0).config = some sceneConfig ∧ s.moverTrack 0 = some (0, sceneTrack true) ∧ s.run 0 = some ⟨1, 2⟩ ∧
      (s.mover 0).target = some 40000 ∧ (s.mover 0).profile = some 200 ∧ s.leadOf 0 = some 0 := by
  unfold State.reports State.awaits State.ArbiterAgrees
  decide +kernel

theorem test_progress_report_premises : ∀ st ∈ [MState.parked, .starting, .stopping, .held],
    let s := asking st 2 .sample
    let r := plainReport 19500 0 .released
    s.reports (windowOf 2 .sample) (reportFrame 3 false r) r ∧ s.resetLow = false ∧ s.ArbiterAgrees ∧
      (s.station 2).assign = some { mover := 0, role := .brake, offset := -500, poll := 20, busyExp := 2 } ∧
      (s.mover 0).config = some sceneConfig ∧ s.authorityEnd 0 = some 31000 := by
  unfold State.reports State.awaits State.ArbiterAgrees
  decide +kernel

theorem test_follower_report_premises :
    let s := asking .moving 1 .sample
    let r := plainReport 20500 0 .released
    s.reports (windowOf 1 .sample) (reportFrame 2 false r) r ∧ s.ArbiterAgrees ∧
      (s.station 1).assign = some { mover := 0, role := .follow, offset := 500, poll := 20, busyExp := 2 } ∧
      (s.mover 0).reference = some 20000 ∧ (s.mover 0).leadTime = some 0 ∧ s.leadOf 0 = some 0 ∧
      (s.station 0).report = some (restReport 20000) := by
  unfold State.reports State.awaits State.ArbiterAgrees
  decide +kernel

theorem test_enrol_premises :
    let s := enrolling (some 20000) [0, 1]
    s.awaits (windowOf 2 .ident) ∧ s.resetLow = false ∧ (s.station 2).state = .active ∧
      readAnswer s.now 3 .ident (reportFrame 3 false (identReport 19500 .applied)) = .report false (identReport 19500 .applied) ∧
      (s.mover 0).state = .enrolling ∧ (s.mover 0).config = some sceneConfig ∧ s.track sceneConfig.track = some (sceneTrack false) ∧
      ∀ i < 5, (sceneTrack false).overlaps 19000 21000 i = true ↔ 1 ≤ i ∧ i ≤ 2 := by
  unfold State.awaits
  decide +kernel

theorem test_agreeing_premises :
    (noticed .moving).ArbiterAgrees ∧ (twice .parked).ArbiterAgrees ∧ (crowded .held).ArbiterAgrees ∧
    (scene .queued).ArbiterAgrees := by
  unfold State.ArbiterAgrees
  decide +kernel

/-! ### Premises met: alerts told, ATTN and the driver -/

/-- No latch set before. -/
def unlatched (s : State) : State := { s with alerts := s.alerts.mapFlags fun _ x => { x with latched := false } }

/-- A rise latches and asserts ATTN; a flag that stands or falls latches nothing; a latched flag stays (R167, R168). -/
theorem test_alerts_latched_at_their_rise :
    let starting := unlatched { scene .starting with now := 3000 }
    let struck := unlatched (twice .moving)
    actives starting = [] ∧ starting.attn = false ∧
    latches (runs starting [.startTimerExpiry 0]) = [.moverFault] ∧
    (runs starting [.startTimerExpiry 0]).attn = true ∧
    latches (runs struck [.answerWindowClosed]) = [.station, .moverFault] ∧
    (runs struck [.stopAll]).attn = false ∧
    actives (runs raining [.fullReset]) = [.storm, .estop] ∧ (runs raining [.fullReset]).attn = false ∧
    (runs raining [.fullReset, .resetInputReleased]).attn = true ∧
    latches (runs (unlatched raining) [.rainInputChange false]) = [] := by
  decide +kernel

/-- ATTN by ACK_ALERTS: every latched alert named and not active, an active one among them, one not named (R170). -/
theorem test_attn_acknowledged :
    let s := unlatched (scene .faulted)
    let faulted := { s with alerts := { s.alerts with storm := ⟨false, true⟩ } }
    actives faulted = [.moverFault] ∧ faulted.attn = true ∧ latches faulted = [.storm] ∧ (runs faulted [.ackAlerts 0x02]).attn = false ∧
    (runs faulted [.ackAlerts 0x82]).attn = false ∧ (runs faulted [.ackAlerts 0x80]).attn = true ∧
    (runs { faulted with alerts := { faulted.alerts with moverFault := ⟨true, true⟩ } } [.ackAlerts 0xFF]).attn = true ∧
    ({ faulted with resetLow := true } : State).attn = false := by
  decide +kernel

/-- The driver from the start of a frame to its end, and to a full reset (R134). -/
theorem test_driver_enabled_while_sending :
    let idle := { scene .moving with link := { (scene .moving).link with line := .idle, broadcast := true } }
    let calling := (scene .moving).modLink 0 fun l => { l with due := some 0 }
    idle.driverEnable = false ∧ (runs idle [.broadcastHoldStart]).driverEnable = true ∧
    (runs idle [.broadcastHoldStart, .broadcastHoldEnd]).driverEnable = false ∧
    (runs idle [.broadcastHoldStart, .fullReset]).driverEnable = false ∧
    (runs calling [.transactionStart]).driverEnable = true ∧
    (runs calling [.transactionStart, .commandFrameEnd]).driverEnable = false := by
  decide +kernel

end Sys2Proof.Tests
end

section
/-!
Time and reset: the idle step, FULL_RESET and RESET_INPUT_RELEASED (R1, R179). First what the two commands and the tick do to the
state, once for each of their branches; then the statements.
-/

namespace Sys2Proof.Machine

open Sys2Proof

/-! ### The time base -/

/-- While the reset input is held low the time base stands (log entry 1). -/
theorem State.tick_held {s : State} (h : s.resetLow = true) : s.tick = s := if_pos h

/-- With no reset held a tick is one millisecond of the time base and nothing else (R1). -/
theorem State.tick_running {s : State} (h : s.resetLow = false) : s.tick = { s with now := s.now + 1#32 } :=
  if_neg (by simp [h])

/-- A step with no command waiting is a tick. -/
theorem step_idle {s : State} (h : s.pending = []) : step s = .next s.tick := by
  unfold step
  rw [h]

/-! ### FULL_RESET -/

/-- Every entry of a table at its reset value reads as that value. -/
@[simp] theorem tget_replicate {α : Type} {n : Nat} (x : α) (i : Fin n) : tget (Vector.replicate n x) i = x := by
  simp [tget]

theorem exec_fullReset_eq (s : State) : exec .fullReset s = .next s.fullReset := rfl

theorem State.fullReset_track (s : State) (k : TrackNo) : s.fullReset.track k = none := tget_replicate none k

theorem State.fullReset_run (s : State) (m : MoverNo) : s.fullReset.run m = none := tget_replicate none m

theorem State.fullReset_mover (s : State) (m : MoverNo) : s.fullReset.mover m = Mover.atReset :=
  tget_replicate Mover.atReset m

theorem State.fullReset_station (s : State) (a : StationNo) : s.fullReset.station a = Station.atReset :=
  tget_replicate Station.atReset a

theorem State.fullReset_linkOf (s : State) (a : StationNo) : s.fullReset.linkOf a = Link.atReset :=
  tget_replicate Link.atReset a

theorem State.fullReset_channel (s : State) (ch : Fin 3) : tget s.fullReset.wind.channels ch = Channel.atReset :=
  tget_replicate Channel.atReset ch

/-- STORM and ESTOP are the only alerts with a flag set (R167). -/
theorem State.fullReset_alert (s : State) {n : AlertName} (hs : n ≠ .storm) (he : n ≠ .estop) :
    s.fullReset.alerts.get n = ⟨false, false⟩ := by
  cases n with
  | storm => exact absurd rfl hs
  | estop => exact absurd rfl he
  | _ => rfl

/-! ### RESET_INPUT_RELEASED -/

theorem exec_resetInputReleased_eq (s : State) : exec .resetInputReleased s = .next s.resetReleased := rfl

/-- The release of a held reset starts the time base, and the conditioning timer of each input that is high (R1, R166, R169). -/
theorem State.resetReleased_held {s : State} (h : s.resetLow = true) :
    s.resetReleased =
      { s with
        resetLow := false, now := 0
        inputs :=
          { s.inputs with
            rainTimer := if s.inputs.rainPin = true then some 2000 else none
            chainTimer := if s.inputs.estopPin = true then some 100 else none } } :=
  if_pos h

/-- With no reset held a release does nothing (log entry 7). -/
theorem State.resetReleased_running {s : State} (h : s.resetLow = false) : s.resetReleased = s :=
  if_neg (by simp [h])

/-- A full reset and its release, both inputs low, give the model's state after reset, the waiting commands kept (log entry 3). -/
theorem State.resetReleased_fullReset {s : State} (hr : s.inputs.rainPin = false) (he : s.inputs.estopPin = false) :
    s.fullReset.resetReleased = { State.reset with pending := s.pending } := by
  rw [State.resetReleased_held rfl]
  simp [State.fullReset, State.reset, State.atReset, hr, he]

end Sys2Proof.Machine

section

open Sys2Proof Sys2Proof.Machine

/-- Settles O6, by whether the reset input holds the time base. -/
theorem idleStepTicks : Obligations.IdleStepTicks := by
  intro s hidle
  rw [step_idle hidle]
  by_cases hreset : s.resetLow = true
  · rw [State.tick_held hreset, if_pos hreset]
  · rw [State.tick_running (by simpa using hreset), if_neg hreset]

/-- Settles O9: the records are those of `State.fullReset`, read block by block, and the release is that of a held reset. -/
theorem fullResetAndRelease : Obligations.FullResetAndRelease := by
  intro s
  refine ⟨s.fullReset, exec_fullReset_eq s, rfl, rfl, rfl, s.fullReset_track, s.fullReset_run, s.fullReset_mover, rfl,
    s.fullReset_station, s.fullReset_linkOf, rfl, rfl, rfl, rfl, rfl, rfl, rfl, rfl, rfl, ?channels, rfl, rfl, rfl, rfl, rfl,
    rfl, rfl, fun _ => s.fullReset_alert, rfl, ?releaseAfterReset, ?resetState, ?release, ?noReset⟩
  case channels =>
    intro ch
    rw [s.fullReset_channel ch]
    decide
  case releaseAfterReset =>
    rw [exec_resetInputReleased_eq, State.resetReleased_held rfl]
    rfl
  case resetState =>
    intro hrain hestop
    rw [exec_resetInputReleased_eq, State.resetReleased_fullReset hrain hestop]
  case release =>
    intro hheld
    rw [exec_resetInputReleased_eq, State.resetReleased_held hheld]
  case noReset =>
    intro hrunning
    rw [exec_resetInputReleased_eq, State.resetReleased_running hrunning]

end

end


section
/-!
The Admission Arbiter (R69 to R78). First the relations over which the invariant is carried: two states in which every mover
stands in the same state, and an entry of one mover to another state. Then what admission, an exit from a state and an admission
request do to the Arbiter's books, and then each event, by the operations it is made of.
-/

namespace Sys2Proof.Machine

open Sys2Proof

/-! ### The same movers in the same states -/

/-- The Arbiter's records and the state of every mover are the same in s and t. -/
structure State.SameStates (s t : State) : Prop where
  arbiter : t.arbiter = s.arbiter
  state : ∀ n, (t.mover n).state = (s.mover n).state

theorem State.SameStates.refl (s : State) : s.SameStates s := ⟨rfl, fun _ => rfl⟩

theorem State.SameStates.trans {s t u : State} (h : s.SameStates t) (g : t.SameStates u) : s.SameStates u :=
  ⟨g.arbiter.trans h.arbiter, fun n => (g.state n).trans (h.state n)⟩

/-- A second operation after a first: `trans`, the second one first, so that it says where the first one ends. -/
theorem State.SameStates.after {s t u : State} (g : t.SameStates u) (h : s.SameStates t) : s.SameStates u := h.trans g

/-- Operations that change neither the mover records nor the Arbiter. -/
theorem State.SameStates.of_records {s t : State} (ha : t.arbiter = s.arbiter) (hm : t.movers = s.movers) :
    s.SameStates t :=
  ⟨ha, fun n => by rw [State.mover, State.mover, hm]⟩

/-- A change of a mover record that keeps its state. -/
theorem State.modMover_sameStates (s : State) (m : MoverNo) {f : Mover → Mover} (hf : ∀ x, (f x).state = x.state) :
    s.SameStates (s.modMover m f) :=
  ⟨rfl, fun n => by
    rw [State.mover_modMover]
    split
    · next h => rw [hf, h]
    · rfl⟩

theorem State.modStation_sameStates (s : State) (a : StationNo) (f : Station → Station) :
    s.SameStates (s.modStation a f) := .of_records rfl rfl

theorem State.modStationsOf_sameStates (s : State) (m : MoverNo) (f : Station → Station) :
    s.SameStates (s.modStationsOf m f) := .of_records (by simp) (by simp)

theorem State.standAll_sameStates (s : State) (m : MoverNo) (c : Command) (u : Bool) :
    s.SameStates (s.standAll m c u) := s.modStationsOf_sameStates m _

theorem State.modServiceOf_sameStates (s : State) (m : MoverNo) (f : Station → Station) (g : Link → Link) :
    s.SameStates (s.modServiceOf m f g) := .of_records (by simp) (by simp)

theorem State.modLink_sameStates (s : State) (a : StationNo) (f : Link → Link) : s.SameStates (s.modLink a f) :=
  .of_records rfl rfl

theorem State.reply_sameStates (s : State) (c : Byte) (st : Status) (items : List Item) :
    s.SameStates (s.reply c st items) := .of_records rfl rfl

theorem State.updateAlerts_sameStates (s : State) : s.SameStates s.updateAlerts := .of_records rfl rfl

theorem State.setRun_sameStates (s : State) (m : MoverNo) (r : Option Run) : s.SameStates (s.setRun m r) :=
  .of_records rfl rfl

theorem State.modSegAt_sameStates (s : State) (index : Nat) (f : Seg → Seg) : s.SameStates (s.modSegAt index f) := by
  unfold State.modSegAt
  split
  · exact .of_records rfl rfl
  · exact .refl s

theorem State.blockRun_sameStates (s : State) (m : MoverNo) : s.SameStates (s.blockRun m) := by
  unfold State.blockRun
  split <;> exact .of_records rfl rfl

theorem State.takeFootprint_sameStates (s : State) (m : MoverNo) : s.SameStates (s.takeFootprint m).2 := by
  unfold State.takeFootprint
  split
  · split <;> exact .of_records rfl rfl
  · exact .refl s

theorem State.fileReference_sameStates (s : State) (m : MoverNo) (offset : Int) (r : Report) :
    s.SameStates (s.fileReference m offset r) := by
  unfold State.fileReference
  split
  · exact s.modMover_sameStates m fun _ => rfl
  · exact .refl s

theorem State.joinProgress_sameStates (s : State) (m : MoverNo) (a : StationNo) : s.SameStates (s.joinProgress m a) :=
  s.modMover_sameStates m fun _ => rfl

theorem State.lawOutput_sameStates (s : State) (m : MoverNo) (c : MoverConfig) (speed : Nat) :
    s.SameStates (s.lawOutput m c speed) :=
  .after (State.modStationsOf_sameStates _ m _) (s.modMover_sameStates m fun _ => rfl)

theorem State.dwellTest_sameStates (s : State) (m : MoverNo) (c : MoverConfig) (dAuth dTgt : Nat) (speed : Int) :
    s.SameStates (s.dwellTest m c dAuth dTgt speed) :=
  s.modMover_sameStates m fun _ => by split <;> rfl

theorem State.enterBraking_sameStates (s : State) (m : MoverNo) : s.SameStates (s.enterBraking m) :=
  .after (State.standAll_sameStates _ m _ _) (s.modMover_sameStates m fun _ => rfl)

theorem State.writeTrim_sameStates (s : State) (m : MoverNo) (a : StationNo) (c : MoverConfig) (trim : Int) :
    s.SameStates (s.writeTrim m a c trim) := .of_records rfl rfl

/-! ### The proving sweep -/

theorem State.evaluate_sameStates (s : State) (k : TrackNo) (t : Track) (p : Nat) (g : Seg) :
    s.SameStates (s.evaluate k t p g) := by
  unfold State.evaluate
  dsimp only
  split <;> exact .of_records rfl rfl

theorem State.completeStep_sameStates (s : State) : s.SameStates s.completeStep := .of_records rfl rfl

theorem State.completePending_sameStates (s : State) (q : PendingStep) : s.SameStates (s.completePending q) := by
  unfold State.completePending
  split
  · split
    · split
      · exact .after (State.completeStep_sameStates _) (s.evaluate_sameStates _ _ _ _)
      · exact s.completeStep_sameStates
    · exact s.completeStep_sameStates
  · exact s.completeStep_sameStates

theorem State.noticeEnded_sameStates (s : State) (a : StationNo) : s.SameStates (s.noticeEnded a) := by
  unfold State.noticeEnded
  split
  · split
    · exact s.completePending_sameStates _
    · exact .refl s
  · exact .refl s

theorem State.giveNotices_sameStates (s : State) (dropped : List StationNo) : s.SameStates (s.giveNotices dropped) := by
  unfold State.giveNotices
  induction dropped generalizing s with
  | nil => exact .refl s
  | cons a rest ih => exact (s.noticeEnded_sameStates a).trans (ih _)

theorem State.beginStep_sameStates (s : State) : s.SameStates s.beginStep := by
  unfold State.beginStep
  split
  · exact s.completeStep_sameStates
  · split
    · exact s.completeStep_sameStates
    · split
      · exact .after (State.completeStep_sameStates _) (s.evaluate_sameStates _ _ _ _)
      · exact .of_records rfl rfl

theorem State.provingExpiry_sameStates (s : State) : s.SameStates s.provingExpiry := by
  unfold State.provingExpiry
  split
  · dsimp only
    split
    · exact .of_records rfl rfl
    · exact .after (State.beginStep_sameStates _) (.of_records rfl rfl)
  · exact .refl s

/-! ### Requests that leave movers and Arbiter alone -/

theorem State.allocateTrack_sameStates (s : State) (k : TrackNo) (start : Nat) (lengths : List Nat) :
    s.SameStates (s.allocateTrack k start lengths) := by
  unfold State.allocateTrack
  dsimp only
  split <;> exact .of_records rfl rfl

theorem State.defineTrack_sameStates (s : State) (track start count : Nat) (lengths : List Nat) :
    s.SameStates (s.defineTrack track start count lengths) := by
  unfold State.defineTrack
  split
  · exact .of_records rfl rfl
  · split
    · exact .of_records rfl rfl
    · exact .of_records rfl rfl
    · split
      · exact .of_records rfl rfl
      · exact s.allocateTrack_sameStates _ _ _

theorem State.removeTrack_sameStates (s : State) (track : Nat) : s.SameStates (s.removeTrack track) := by
  unfold State.removeTrack
  repeat' split
  all_goals exact .of_records rfl rfl

theorem State.queryTrack_sameStates (s : State) (track : Nat) : s.SameStates (s.queryTrack track) := by
  unfold State.queryTrack
  split <;> exact .of_records rfl rfl

theorem State.blockSegment_sameStates (s : State) (index : Nat) : s.SameStates (s.blockSegment index) := by
  unfold State.blockSegment
  split
  · exact .of_records rfl rfl
  · split
    · exact .of_records rfl rfl
    · split
      · exact .of_records rfl rfl
      · exact .after (State.reply_sameStates _ _ _ _) (s.modSegAt_sameStates index _)

theorem State.unblockSegment_sameStates (s : State) (index : Nat) : s.SameStates (s.unblockSegment index) := by
  unfold State.unblockSegment
  split
  · exact .of_records rfl rfl
  · split
    · exact .of_records rfl rfl
    · exact .after (State.reply_sameStates _ _ _ _) (s.modSegAt_sameStates index _)

theorem State.querySegment_sameStates (s : State) (index : Nat) : s.SameStates (s.querySegment index) := by
  unfold State.querySegment
  split <;> exact .of_records rfl rfl

theorem State.reserve_sameStates (s : State) (mover endCode count : Nat) :
    s.SameStates (s.reserve mover endCode count) := by
  unfold State.reserve
  repeat' split
  all_goals exact .of_records rfl rfl

theorem State.release_sameStates (s : State) (mover endCode count : Nat) :
    s.SameStates (s.release mover endCode count) := by
  unfold State.release
  repeat' split
  all_goals exact .of_records rfl rfl

theorem State.configureMover_sameStates (s : State) (mover : Nat) (raw : RawConfig) :
    s.SameStates (s.configureMover mover raw) := by
  unfold State.configureMover
  split
  · exact .of_records rfl rfl
  · split
    · exact .of_records rfl rfl
    · split
      · exact .after (State.reply_sameStates _ _ _ _) (s.modMover_sameStates _ fun _ => rfl)
      · exact .of_records rfl rfl
      · exact .of_records rfl rfl

theorem State.queryMover_sameStates (s : State) (mover : Nat) : s.SameStates (s.queryMover mover) := by
  unfold State.queryMover
  split <;> exact .of_records rfl rfl

theorem State.assignStation_sameStates (s : State) (address mover role : Nat) (offset : Int) (poll busyExp : Nat) :
    s.SameStates (s.assignStation address mover role offset poll busyExp) := by
  unfold State.assignStation
  repeat' split
  all_goals exact .of_records rfl rfl

theorem State.unassignStation_sameStates (s : State) (address : Nat) : s.SameStates (s.unassignStation address) := by
  unfold State.unassignStation
  repeat' split
  all_goals exact .of_records rfl rfl

theorem State.queryStation_sameStates (s : State) (address view : Nat) : s.SameStates (s.queryStation address view) := by
  unfold State.queryStation
  split <;> exact .of_records rfl rfl

theorem State.setWind_sameStates (s : State) (w : WindSettings) : s.SameStates (s.setWind w) := by
  unfold State.setWind
  split <;> exact .of_records rfl rfl

/-! ### Events that leave movers and Arbiter alone -/

theorem State.takeConsistent_sameStates (s : State) (index : Nat) : s.SameStates (s.takeConsistent index) := by
  unfold State.takeConsistent
  split
  · dsimp only
    split
    · exact .after (State.updateAlerts_sameStates _) (.after (State.modSegAt_sameStates _ _ _) (.of_records rfl rfl))
    · exact .of_records rfl rfl
  · exact .refl s

theorem State.takeInconsistent_sameStates (s : State) (index : Nat) : s.SameStates (s.takeInconsistent index) := by
  unfold State.takeInconsistent
  split
  · dsimp only
    split
    · exact .after (State.updateAlerts_sameStates _) (.after (State.modSegAt_sameStates _ _ _) (.of_records rfl rfl))
    · exact .of_records rfl rfl
  · exact .refl s

theorem State.takeTrailing_sameStates (s : State) (index : Nat) : s.SameStates (s.takeTrailing index) := by
  unfold State.takeTrailing
  split
  · dsimp only
    split
    · exact .after (State.setRun_sameStates _ _ _) (.after (State.modSegAt_sameStates _ _ _) (.of_records rfl rfl))
    · exact .of_records rfl rfl
  · exact .refl s

theorem State.transactionStart_sameStates (s : State) : s.SameStates s.transactionStart := by
  unfold State.transactionStart
  repeat' split
  all_goals exact .of_records rfl rfl

theorem State.commandFrameEnd_sameStates (s : State) : s.SameStates s.commandFrameEnd := by
  unfold State.commandFrameEnd
  split <;> exact .of_records rfl rfl

theorem State.broadcastStart_sameStates (s : State) : s.SameStates s.broadcastStart := by
  unfold State.broadcastStart
  split <;> exact .of_records rfl rfl

theorem State.broadcastEnd_sameStates (s : State) : s.SameStates s.broadcastEnd := by
  unfold State.broadcastEnd
  split <;> exact .of_records rfl rfl

theorem State.takeOpeningFieldLink_sameStates (s : State) : s.SameStates s.takeOpeningFieldLink := by
  unfold State.takeOpeningFieldLink
  split <;> exact .of_records rfl rfl

theorem State.rainOn_sameStates (s : State) : s.SameStates s.rainOn := by
  unfold State.rainOn
  split <;> exact .of_records rfl rfl

theorem State.rainOff_sameStates (s : State) : s.SameStates s.rainOff := by
  unfold State.rainOff
  split <;> exact .of_records rfl rfl

theorem State.chainOpens_sameStates (s : State) : s.SameStates s.chainOpens := by
  unfold State.chainOpens
  split <;> exact .of_records rfl rfl

theorem State.chainCloses_sameStates (s : State) : s.SameStates s.chainCloses := by
  unfold State.chainCloses
  split <;> exact .of_records rfl rfl

theorem State.resetReleased_sameStates (s : State) : s.SameStates s.resetReleased := by
  unfold State.resetReleased
  split <;> exact .of_records rfl rfl

theorem State.tick_sameStates (s : State) : s.SameStates s.tick := by
  unfold State.tick
  split <;> exact .of_records rfl rfl

/-! ### A mover enters another state -/

/-- From s to t mover m has entered state `st`, and every other mover is in the state it was in. -/
structure State.StateChange (s t : State) (m : MoverNo) (st : MState) : Prop where
  entered : (t.mover m).state = st
  others : ∀ n, n ≠ m → (t.mover n).state = (s.mover n).state

/-- Such a change of which the Arbiter has not been told. -/
structure State.Enters (s t : State) (m : MoverNo) (st : MState) : Prop extends s.StateChange t m st where
  arbiter : t.arbiter = s.arbiter

theorem State.modMover_enters (s : State) (m : MoverNo) {f : Mover → Mover} {st : MState}
    (hf : (f (s.mover m)).state = st) : s.Enters (s.modMover m f) m st :=
  ⟨⟨by rw [State.mover_modMover_self, hf], fun n hn => by rw [State.mover_modMover, if_neg hn]⟩, rfl⟩

/-- What follows an entry without a further change of state, the later operation first. -/
theorem State.Enters.followed {s t u : State} {m : MoverNo} {st : MState} (g : t.SameStates u)
    (h : s.Enters t m st) : s.Enters u m st :=
  ⟨⟨(g.state m).trans h.entered, fun n hn => (g.state n).trans (h.others n hn)⟩, g.arbiter.trans h.arbiter⟩

/-- An entry after operations that change no state, the entry first. -/
theorem State.Enters.after {s t u : State} {m : MoverNo} {st : MState} (g : t.Enters u m st) (h : s.SameStates t) :
    s.Enters u m st :=
  ⟨⟨g.entered, fun n hn => (g.others n hn).trans (h.state n)⟩, g.arbiter.trans h.arbiter⟩

/-! ### The number of counting movers -/

/-- Two tests that agree on every mover but m count the same movers, m apart. -/
theorem countP_movers_apart {p q : MoverNo → Bool} (m : MoverNo) (h : ∀ n, n ≠ m → p n = q n) :
    (List.finRange 12).countP p + (q m).toNat = (List.finRange 12).countP q + (p m).toNat := by
  have hsplit (r : MoverNo → Bool) :
      (List.finRange 12).countP r = ((List.finRange 12).erase m).countP r + (r m).toNat := by
    rw [(List.perm_cons_erase (List.mem_finRange m)).countP_eq r, List.countP_cons]
    cases r m <;> rfl
  have hrest : ((List.finRange 12).erase m).countP p = ((List.finRange 12).erase m).countP q :=
    List.countP_congr fun n hn => by
      have hne : n ≠ m := fun e => (List.nodup_finRange 12).not_mem_erase (e ▸ hn)
      rw [h n hne]
  rw [hsplit p, hsplit q, hrest]
  omega

/-- The movers of s in a counting state (R69). -/
def State.countingMovers (s : State) : Nat := (List.finRange 12).countP fun n => (s.mover n).state.counting

/-- A change of state changes the number by what mover m counts for before and after it. -/
theorem State.StateChange.countingMovers {s t : State} {m : MoverNo} {st : MState} (h : s.StateChange t m st) :
    t.countingMovers + (s.mover m).state.counting.toNat = s.countingMovers + st.counting.toNat := by
  have hcount := countP_movers_apart (p := fun n => (t.mover n).state.counting)
    (q := fun n => (s.mover n).state.counting) m fun n hn => by rw [h.others n hn]
  rwa [h.entered] at hcount

/-! ### The Arbiter's books -/

/-- The limit and the count are right, whatever stands in the start queue. -/
structure State.CountAgrees (s : State) : Prop where
  limit : 1 ≤ s.arbiter.limit ∧ s.arbiter.limit ≤ 12
  count : s.arbiter.count = s.countingMovers
  count_le : s.arbiter.count ≤ s.arbiter.limit

/-- Count and queue are right, though the count may stand below the limit with movers in the queue. -/
structure State.BooksAgree (s : State) : Prop extends s.CountAgrees where
  queued : ∀ m, m ∈ s.arbiter.queue.map (·.mover) ↔ (s.mover m).state = .queued
  nodup : (s.arbiter.queue.map (·.mover)).Nodup

/-- The Arbiter agrees with the movers when its books are right and no queue stands below the limit. -/
theorem State.arbiterAgrees_iff {s : State} :
    s.ArbiterAgrees ↔ s.BooksAgree ∧ (s.arbiter.queue ≠ [] → s.arbiter.count = s.arbiter.limit) := by
  constructor
  · rintro ⟨hlimit, hcount, hle, hqueued, hnodup, hfull⟩
    exact ⟨⟨⟨hlimit, hcount, hle⟩, hqueued, hnodup⟩, hfull⟩
  · rintro ⟨⟨⟨hlimit, hcount, hle⟩, hqueued, hnodup⟩, hfull⟩
    exact ⟨hlimit, hcount, hle, hqueued, hnodup, hfull⟩

theorem State.ArbiterAgrees.books {s : State} (h : s.ArbiterAgrees) : s.BooksAgree := (State.arbiterAgrees_iff.1 h).1

theorem State.ArbiterAgrees.full {s : State} (h : s.ArbiterAgrees) (hq : s.arbiter.queue ≠ []) :
    s.arbiter.count = s.arbiter.limit := (State.arbiterAgrees_iff.1 h).2 hq

/-- Below the limit no mover waits. -/
theorem State.ArbiterAgrees.queue_nil {s : State} (h : s.ArbiterAgrees) (hlt : s.arbiter.count < s.arbiter.limit) :
    s.arbiter.queue = [] := by
  by_contra hq
  exact absurd (h.full hq) (Nat.ne_of_lt hlt)

/-! ### Admission from the head (R72, R74) -/

/-- An admission leaves mover m in STARTING, whatever the Arbiter wrote for it. -/
theorem State.enterStarting_change (s : State) (a : Arbiter) (m : MoverNo) :
    s.StateChange (State.enterStarting { s with arbiter := a } m) m .starting :=
  have h : State.Enters _ _ m .starting :=
    .followed (State.modStationsOf_sameStates _ m _)
      (State.modMover_enters { s with arbiter := a } m (f := Mover.toStarting s.now) rfl)
  ⟨h.entered, h.others⟩

/-- A mover that enters STARTING from a state that is not counting is counted, and within the limit when there was room. -/
theorem State.CountAgrees.enterStarting {s : State} {m : MoverNo} (h : s.CountAgrees)
    (hm : (s.mover m).state.counting = false) (hlt : s.arbiter.count < s.arbiter.limit) (queue : List QueueEntry) :
    (State.enterStarting { s with arbiter := { s.arbiter with count := s.arbiter.count + 1, queue := queue } }
      m).CountAgrees := by
  have hcount := (s.enterStarting_change { s.arbiter with count := s.arbiter.count + 1, queue := queue } m).countingMovers
  rw [hm] at hcount
  refine ⟨?_, ?_, ?_⟩ <;> rw [State.enterStarting_arbiter]
  · exact h.limit
  · exact (congrArg (· + 1) h.count).trans hcount.symm
  · exact hlt

/-- The books stay right when the head of the queue is admitted below the limit. -/
theorem State.BooksAgree.admitHead {s : State} {e : QueueEntry} {rest : List QueueEntry} (h : s.BooksAgree)
    (hq : s.arbiter.queue = e :: rest) (hlt : s.arbiter.count < s.arbiter.limit) :
    (State.enterStarting { s with arbiter := { s.arbiter with count := s.arbiter.count + 1, queue := rest } }
      e.mover).BooksAgree := by
  have hchange := s.enterStarting_change { s.arbiter with count := s.arbiter.count + 1, queue := rest } e.mover
  have hqueued := h.queued
  have hnodup := h.nodup
  rw [hq, List.map_cons] at hqueued hnodup
  obtain ⟨hfresh, hnodup⟩ := List.nodup_cons.1 hnodup
  have hhead : (s.mover e.mover).state = .queued := (hqueued e.mover).1 List.mem_cons_self
  refine ⟨h.toCountAgrees.enterStarting (by rw [hhead]; rfl) hlt rest, fun n => ?_, ?_⟩ <;> rw [State.enterStarting_arbiter]
  · by_cases hn : n = e.mover
    · rw [hn, hchange.entered]
      simpa using hfresh
    · rw [hchange.others n hn]
      simpa [hn] using hqueued n
  · exact hnodup

/-- Admission as far as the limit allows makes right books agree with the movers. -/
theorem State.BooksAgree.admitQueue {s : State} (h : s.BooksAgree) : s.admitQueue.ArbiterAgrees := by
  induction hq : s.arbiter.queue generalizing s with
  | nil =>
    rw [State.admitQueue_nil hq]
    exact State.arbiterAgrees_iff.2 ⟨h, fun hne => absurd hq hne⟩
  | cons e rest ih =>
    by_cases hlt : s.arbiter.count < s.arbiter.limit
    · rw [State.admitQueue_head hq hlt]
      exact ih (h.admitHead hq hlt) (by simp)
    · rw [State.admitQueue_full (Nat.le_of_not_lt hlt)]
      exact State.arbiterAgrees_iff.2 ⟨h, fun _ => Nat.le_antisymm h.count_le (Nat.le_of_not_lt hlt)⟩

/-! ### Exits (R42, R69, R74, R75) -/

/-- States that neither count nor wait: an exit to one of them frees what the mover had at the Arbiter. -/
def MState.atRest (st : MState) : Bool := !st.counting && decide (st ≠ .queued)

theorem MState.atRest_iff {st : MState} : st.atRest = true ↔ st.counting = false ∧ st ≠ .queued := by
  simp [MState.atRest]

/-- Where no mover changes its state and the Arbiter is not told, it still agrees. -/
theorem State.SameStates.keeps {s t : State} (h : s.SameStates t) (hs : s.ArbiterAgrees) : t.ArbiterAgrees := by
  simpa only [State.ArbiterAgrees, h.arbiter, h.state] using hs

/-- An entry that leaves counting and waiting as they were needs no word to the Arbiter. -/
theorem State.Enters.keeps {s t : State} {m : MoverNo} {st : MState} (h : s.Enters t m st) (hs : s.ArbiterAgrees)
    (hcounting : st.counting = (s.mover m).state.counting) (hqueued : st = .queued ↔ (s.mover m).state = .queued) :
    t.ArbiterAgrees := by
  have hstate (n) : (t.mover n).state.counting = (s.mover n).state.counting ∧
      ((t.mover n).state = .queued ↔ (s.mover n).state = .queued) := by
    by_cases hn : n = m
    · rw [hn, h.entered]
      exact ⟨hcounting, hqueued⟩
    · rw [h.others n hn]
      exact ⟨rfl, Iff.rfl⟩
  simpa only [State.ArbiterAgrees, h.arbiter, (hstate _).1, (hstate _).2] using hs

/-- From rest to rest. -/
theorem State.Enters.keeps_rest {s t : State} {m : MoverNo} {st : MState} (h : s.Enters t m st) (hs : s.ArbiterAgrees)
    (hold : (s.mover m).state.atRest = true) (hnew : st.atRest = true) : t.ArbiterAgrees := by
  obtain ⟨hc, hq⟩ := MState.atRest_iff.1 hold
  obtain ⟨hc', hq'⟩ := MState.atRest_iff.1 hnew
  exact h.keeps hs (hc'.trans hc.symm) (iff_of_false hq' hq)

/-- From counting to counting. -/
theorem State.Enters.keeps_counting {s t : State} {m : MoverNo} {st : MState} (h : s.Enters t m st)
    (hs : s.ArbiterAgrees) (hold : (s.mover m).state.counting = true) (hnew : st.counting = true) : t.ArbiterAgrees :=
  h.keeps hs (hnew.trans hold.symm) (iff_of_false (by rintro rfl; cases hnew) fun e => by rw [e] at hold; cases hold)

/-- A queue entry goes with its mover's exit from QUEUED (R75). -/
theorem State.Enters.keeps_unqueue {s t : State} {m : MoverNo} {st : MState} (h : s.Enters t m st)
    (hs : s.ArbiterAgrees) (hold : (s.mover m).state = .queued) (hnew : st.atRest = true) :
    (t.unqueue m).ArbiterAgrees := by
  obtain ⟨hc, hq⟩ := MState.atRest_iff.1 hnew
  have hbooks := hs.books
  have hsame : t.countingMovers = s.countingMovers := by
    have hcount := h.countingMovers
    rwa [hold, hc] at hcount
  have hqueue : (t.unqueue m).arbiter =
      { s.arbiter with queue := s.arbiter.queue.filter fun e => decide (e.mover ≠ m) } := by
    rw [State.unqueue, h.arbiter]
  refine State.arbiterAgrees_iff.2 ⟨⟨⟨?_, ?_, ?_⟩, fun n => ?_, ?_⟩, ?_⟩ <;> rw [hqueue]
  · exact hbooks.limit
  · exact hbooks.count.trans hsame.symm
  · exact hbooks.count_le
  · rw [State.mover_unqueue]
    by_cases hn : n = m
    · rw [hn, h.entered]
      simp [hq]
    · rw [h.others n hn, ← hbooks.queued n]
      simp only [List.mem_map, List.mem_filter, decide_eq_true_eq]
      exact ⟨fun ⟨e, he, hm⟩ => ⟨e, he.1, hm⟩, fun ⟨e, he, hm⟩ => ⟨e, ⟨he, hm ▸ hn⟩, hm⟩⟩
  · exact hbooks.nodup.sublist (List.filter_sublist.map _)
  · exact fun hne => hs.full fun hnil => hne (by rw [hnil]; rfl)

/-- The count falls with a mover's exit from a counting state, and the head of the queue is admitted (R69, R74). -/
theorem State.Enters.keeps_leaveCounting {s t : State} {m : MoverNo} {st : MState} (h : s.Enters t m st)
    (hs : s.ArbiterAgrees) (hold : (s.mover m).state.counting = true) (hnew : st.atRest = true) :
    t.leaveCounting.ArbiterAgrees := by
  obtain ⟨hc, hq⟩ := MState.atRest_iff.1 hnew
  have hbooks := hs.books
  have hcount : t.countingMovers + 1 = s.countingMovers := by simpa [hold, hc] using h.countingMovers
  have hle := hbooks.count_le
  refine State.BooksAgree.admitQueue (s := { t with arbiter := { t.arbiter with count := t.arbiter.count - 1 } })
    ⟨⟨?_, ?_, ?_⟩, fun n => ?_, ?_⟩ <;> dsimp only <;> rw [h.arbiter]
  · exact hbooks.limit
  · rw [hbooks.count, ← hcount]
    rfl
  · omega
  · rw [hbooks.queued n]
    by_cases hn : n = m
    · rw [hn]
      exact iff_of_false (fun e => by rw [e] at hold; cases hold) fun e => hq (h.entered.symm.trans e)
    · exact iff_of_eq (congrArg (· = MState.queued) (h.others n hn)).symm
  · exact hbooks.nodup

/-- Whatever state mover m has left for one at rest, once the Arbiter is told of it it agrees. -/
theorem State.Enters.keeps_departed {s t : State} {m : MoverNo} {st : MState} (h : s.Enters t m st)
    (hs : s.ArbiterAgrees) (hnew : st.atRest = true) : (t.departed m (s.mover m).state).ArbiterAgrees := by
  rcases t.departed_cases m (s.mover m).state with ⟨hold, ht⟩ | ⟨hold, ht⟩ | ⟨hqueued, hcounting, ht⟩ <;> rw [ht]
  · exact h.keeps_unqueue hs hold hnew
  · exact h.keeps_leaveCounting hs hold hnew
  · exact h.keeps_rest hs (MState.atRest_iff.2 ⟨hcounting, hqueued⟩) hnew

/-! ### Admission requests (R72) -/

/-- A mover that joins the tail of the queue is QUEUED, whatever the Arbiter wrote for it. -/
theorem State.joinTail_change (s : State) (a : Arbiter) (m : MoverNo) :
    s.StateChange ((State.modMover { s with arbiter := a } m Mover.toQueued).standAll m .hold false) m .queued :=
  have h : State.Enters _ _ m .queued :=
    .followed (State.standAll_sameStates _ m _ _)
      (State.modMover_enters { s with arbiter := a } m (f := Mover.toQueued) rfl)
  ⟨h.entered, h.others⟩

/-- A mover at rest that asks for admission is counted, or waits at the tail. -/
theorem State.ArbiterAgrees.requestAdmission {s : State} {m : MoverNo} (h : s.ArbiterAgrees)
    (hm : (s.mover m).state.atRest = true) : (s.requestAdmission m).ArbiterAgrees := by
  obtain ⟨hc, hq⟩ := MState.atRest_iff.1 hm
  have hbooks := h.books
  rcases s.requestAdmission_cases m with ⟨hlt, hnil, ht⟩ | ⟨hfull, ht⟩ <;> rw [ht]
  · have hchange := s.enterStarting_change { s.arbiter with count := s.arbiter.count + 1 } m
    refine State.arbiterAgrees_iff.2
      ⟨⟨hbooks.toCountAgrees.enterStarting hc hlt s.arbiter.queue, fun n => ?_, ?_⟩, ?_⟩ <;>
      rw [State.enterStarting_arbiter]
    · by_cases hn : n = m
      · rw [hn, hchange.entered]
        simp [hnil]
      · rw [hchange.others n hn]
        exact hbooks.queued n
    · exact hbooks.nodup
    · exact fun hne => absurd hnil hne
  · have hchange := s.joinTail_change
      { s.arbiter with queue := s.arbiter.queue ++ [{ mover := m, since := s.now }] } m
    have hout : m ∉ s.arbiter.queue.map (·.mover) := fun hin => hq ((hbooks.queued m).1 hin)
    have hcount := hchange.countingMovers
    rw [hc] at hcount
    refine State.arbiterAgrees_iff.2 ⟨⟨⟨?_, ?_, ?_⟩, fun n => ?_, ?_⟩, fun _ => ?_⟩ <;>
      rw [State.standAll_arbiter, State.modMover_arbiter]
    · exact hbooks.limit
    · exact hbooks.count.trans hcount.symm
    · exact hbooks.count_le
    · by_cases hn : n = m
      · rw [hn, hchange.entered]
        simp
      · rw [hchange.others n hn]
        simpa [hn] using hbooks.queued n
    · simpa [List.nodup_append] using ⟨hbooks.nodup, by simpa using hout⟩
    · exact hfull.elim (Nat.le_antisymm hbooks.count_le) h.full

/-! ### Entries to the mover states -/

namespace State.ArbiterAgrees

variable {s : State} {m : MoverNo}

/-- A mover parked with a stop reason has told the Arbiter (R63, R67). -/
theorem parkWith (h : s.ArbiterAgrees) (reason : StopReason) : (s.parkWith m reason).ArbiterAgrees :=
  State.Enters.keeps_departed (.followed (State.standAll_sameStates _ m _ _) (s.modMover_enters m rfl)) h rfl

/-- A fault is told to the Arbiter, and to no one where the mover is not in service (R59, R65). -/
theorem enterFaulted (h : s.ArbiterAgrees) (code : FaultCode) : (s.enterFaulted m code).ArbiterAgrees := by
  rcases s.enterFaulted_cases m code with ⟨-, ht⟩ | ⟨-, ht⟩ <;> rw [ht]
  · exact State.Enters.keeps_departed (.followed (State.standAll_sameStates _ m _ _) (s.modMover_enters m rfl)) h rfl
  · exact h

/-- The Arbiter goes on counting a mover that stops (R57). -/
theorem enterStopping (h : s.ArbiterAgrees) (hm : (s.mover m).state.counting = true) (reason : StopReason) :
    (s.enterStopping m reason).ArbiterAgrees := by
  have henter : s.Enters ((s.modMover m (Mover.toStopping s.now reason)).standAll m driveZero false) m .stopping :=
    .followed (State.standAll_sameStates _ m _ _) (s.modMover_enters m rfl)
  rcases s.enterStopping_cases m reason with ⟨-, ht⟩ | ⟨-, ht⟩ <;> rw [ht]
  · exact (State.Enters.followed (State.enterBraking_sameStates _ m) henter).keeps_counting h hm rfl
  · exact henter.keeps_counting h hm rfl

/-- The end of a stop leaves the count, in HELD or in PARKED (R42, R57). -/
theorem endStop (h : s.ArbiterAgrees) (hm : (s.mover m).state = .stopping) : (s.endStop m).ArbiterAgrees := by
  have hcounting : (s.mover m).state.counting = true := by rw [hm]; rfl
  refine State.Enters.keeps_leaveCounting (m := m)
    (.followed (State.standAll_sameStates _ m _ _) (s.modMover_enters m rfl)) h hcounting ?_
  split <;> rfl

/-- STOP tells the Arbiter of what it parks (R63). -/
theorem stopMover (h : s.ArbiterAgrees) : (s.stopMover m).ArbiterAgrees := by
  unfold State.stopMover
  split
  next hm => exact h.enterStopping (by rw [hm]; rfl) _
  next hm => exact h.enterStopping (by rw [hm]; rfl) _
  · exact h.parkWith _
  · exact h.parkWith _
  · exact h

/-- So does the reaction to a class notice (R67). -/
theorem stormReact (h : s.ArbiterAgrees) : (s.stormReact m).ArbiterAgrees := by
  unfold State.stormReact
  split
  · split
    next hm => exact h.enterStopping (by rw [hm]; rfl) _
    next hm => exact h.enterStopping (by rw [hm]; rfl) _
    · exact h.parkWith _
    · exact h
  · exact h

/-- An enrol is no matter of the Arbiter's. -/
theorem enterEnrolling (h : s.ArbiterAgrees) (hm : (s.mover m).state.atRest = true) :
    (s.enterEnrolling m).ArbiterAgrees :=
  State.Enters.keeps_rest (.followed (State.modServiceOf_sameStates _ m _ _) (s.modMover_enters m rfl)) h hm rfl

/-- The return of a FAULTED mover to PARKED is no matter of the Arbiter's. -/
theorem clearFault (h : s.ArbiterAgrees) (hm : (s.mover m).state.atRest = true) : (s.clearFault m).ArbiterAgrees :=
  State.Enters.keeps_rest (.followed (State.standAll_sameStates _ m _ _) (s.modMover_enters m rfl)) h hm rfl

end State.ArbiterAgrees

theorem State.enterLockedOut_enters (s : State) (m : MoverNo) (result : Option EnrolResult) :
    s.Enters (s.enterLockedOut m result) m .lockedOut :=
  .followed (State.modServiceOf_sameStates _ m _ _)
    (.after (State.modMover_enters _ m rfl) (.of_records rfl rfl : s.SameStates (s.clearMark m)))

namespace State.ArbiterAgrees

variable {s : State} {m : MoverNo}

/-- Nor is an exit from service, which is one from rest (R64). -/
theorem lockOut (h : s.ArbiterAgrees) (hm : (s.mover m).state.atRest = true) (result : Option EnrolResult) :
    (s.lockOut m result).ArbiterAgrees :=
  State.Enters.keeps_rest (.followed (State.giveNotices_sameStates _ _) (s.enterLockedOut_enters m result)) h hm rfl

theorem lockRun (h : s.ArbiterAgrees) (hm : (s.mover m).state.atRest = true) : (s.lockRun m).ArbiterAgrees :=
  State.Enters.keeps_rest
    (.followed (State.giveNotices_sameStates _ _)
      (.after (State.enterLockedOut_enters _ m none) (s.blockRun_sameStates m))) h hm rfl

/-- A station's failure ends an enrol, or faults a mover in service (R48, R65). -/
theorem stationFailure (h : s.ArbiterAgrees) (code : FaultCode) : (s.stationFailure m code).ArbiterAgrees := by
  unfold State.stationFailure
  split
  next hm => exact h.lockOut (by rw [hm]; rfl) _
  · exact h.enterFaulted code

/-! ### Reports (R130) -/

/-- The completion evaluation ends the enrol in PARKED or in LOCKED_OUT (R47). -/
theorem completeEnrol (h : s.ArbiterAgrees) (hm : (s.mover m).state.atRest = true) :
    (s.completeEnrol m).ArbiterAgrees := by
  unfold State.completeEnrol
  have htake := s.takeFootprint_sameStates m
  split
  · exact h.lockOut hm _
  · split
    · exact h.lockOut hm _
    · split
      next s1 heq =>
        rw [heq] at htake
        exact State.Enters.keeps_rest
          (.followed (State.standAll_sameStates _ m _ _) (.after (s1.modMover_enters m rfl) htake)) h hm rfl
      · exact h.lockOut hm _

theorem reportEnrolling (h : s.ArbiterAgrees) (hm : (s.mover m).state = .enrolling) (a : StationNo) (x : Assignment)
    (ident : Bool) (r : Report) : (s.reportEnrolling m a x ident r).ArbiterAgrees := by
  have hrest : (s.mover m).state.atRest = true := by rw [hm]; rfl
  have hfile : s.SameStates (if x.role = .lead then s.fileReference m x.offset r else s) := by
    split
    · exact s.fileReference_sameStates m _ r
    · exact .refl s
  unfold State.reportEnrolling
  split
  · exact h.lockOut hrest _
  · split
    · exact h.lockOut hrest _
    · generalize (if x.role = .lead then s.fileReference m x.offset r else s) = s1 at hfile ⊢
      have hjoin := hfile.trans (s1.joinProgress_sameStates m a)
      dsimp only
      split
      · split
        · exact (hjoin.keeps h).completeEnrol (by rw [hjoin.state m, hrest])
        · exact hjoin.keeps h
      · exact hfile.keeps h

/-- A STARTING mover that enters MOVING is counted on; one that overruns is faulted (R52). -/
theorem enterMoving (h : s.ArbiterAgrees) (hm : (s.mover m).state.counting = true) :
    (s.enterMoving m).ArbiterAgrees := by
  unfold State.enterMoving
  split
  · exact h
  · split
    · exact h.enterFaulted _
    · exact State.Enters.keeps_counting
        (.followed (State.lawOutput_sameStates _ m _ _) (s.modMover_enters m rfl)) h hm rfl

theorem reportStarting (h : s.ArbiterAgrees) (hm : (s.mover m).state.counting = true) (a : StationNo) (r : Report) :
    (s.reportStarting m a r).ArbiterAgrees := by
  have hjoin := s.joinProgress_sameStates m a
  unfold State.reportStarting
  split
  · dsimp only
    split
    · exact (hjoin.keeps h).enterMoving (by rw [hjoin.state m, hm])
    · exact hjoin.keeps h
  · exact h

theorem leadMoving (h : s.ArbiterAgrees) (hm : (s.mover m).state.counting = true) (r : Report) :
    (s.leadMoving m r).ArbiterAgrees := by
  unfold State.leadMoving
  split
  · exact h
  next i _ =>
    split
    · exact h.enterFaulted _
    next speed _ _ _ _ =>
      have hlaw := s.lawOutput_sameStates m i.config speed
      dsimp only
      split
      · exact (hlaw.keeps h).enterStopping (by rw [hlaw.state m, hm]) _
      · exact State.SameStates.keeps
          (.after (State.modMover_sameStates _ m fun _ => rfl) (.after (State.dwellTest_sameStates _ m _ _ _ _) hlaw)) h

theorem stopProgress (h : s.ArbiterAgrees) (hm : (s.mover m).state = .stopping) (a : StationNo) (role : Role)
    (r : Report) : (s.stopProgress m a role r).ArbiterAgrees := by
  have hjoin := s.joinProgress_sameStates m a
  unfold State.stopProgress
  split
  · split
    · dsimp only
      split
      · exact (hjoin.keeps h).endStop ((hjoin.state m).trans hm)
      · exact hjoin.keeps h
    · exact h
  · split
    · exact (s.enterBraking_sameStates m).keeps h
    · exact h

theorem reportStopping (h : s.ArbiterAgrees) (hm : (s.mover m).state = .stopping) (a : StationNo) (role : Role)
    (r : Report) : (s.reportStopping m a role r).ArbiterAgrees := by
  unfold State.reportStopping
  split
  · exact h.enterFaulted _
  · exact h.stopProgress hm a role r

theorem reportHeld (h : s.ArbiterAgrees) (hm : (s.mover m).state.atRest = true) (role : Role) :
    (s.reportHeld m role).ArbiterAgrees := by
  unfold State.reportHeld
  split
  · exact h.requestAdmission hm
  · exact h

theorem reportByState (h : s.ArbiterAgrees) (a : StationNo) (role : Role) (r : Report) :
    (s.reportByState m a role r).ArbiterAgrees := by
  unfold State.reportByState
  split
  next hm => exact h.reportStarting (by rw [hm]; rfl) a r
  next hm =>
    split
    · exact h.leadMoving (by rw [hm]; rfl) r
    · exact h
  next hm => exact h.reportStopping hm a role r
  next hm => exact h.reportHeld (by rw [hm]; rfl) role
  · exact h

theorem skewTrim (h : s.ArbiterAgrees) (a : StationNo) (offset : Int) (r : Report) :
    (s.skewTrim m a offset r).ArbiterAgrees := by
  unfold State.skewTrim
  split
  · split
    · exact h.enterFaulted _
    · exact (s.writeTrim_sameStates m a _ _).keeps h
  · exact h

theorem reportInService (h : s.ArbiterAgrees) (a : StationNo) (x : Assignment) (r : Report) :
    (s.reportInService m a x r).ArbiterAgrees := by
  have hfile : (if x.role = .lead then s.fileReference m x.offset r else s).ArbiterAgrees := by
    split
    · exact (s.fileReference_sameStates m _ r).keeps h
    · exact h
  unfold State.reportInService
  generalize (if x.role = .lead then s.fileReference m x.offset r else s) = s1 at hfile ⊢
  dsimp only
  split
  · exact hfile
  · split
    · exact hfile.enterFaulted _
    · split
      · exact (hfile.reportByState a _ r).skewTrim a _ r
      · exact hfile.reportByState a _ r

theorem passReport (h : s.ArbiterAgrees) (a : StationNo) (ident : Bool) (r : Report) :
    (s.passReport a ident r).ArbiterAgrees := by
  unfold State.passReport
  split
  · exact h
  · split
    · exact h
    next hm => exact h.reportEnrolling hm a _ ident r
    · exact h.reportInService a _ r

theorem fileReport (h : s.ArbiterAgrees) (a : StationNo) (ident : Bool) (r : Report) :
    (s.fileReport a ident r).ArbiterAgrees :=
  ((s.modStation_sameStates a _).keeps h).passReport a ident r

/-! ### The endings of a transaction (R140 to R147) -/

theorem tellFailure (h : s.ArbiterAgrees) (a : StationNo) (code : FaultCode) : (s.tellFailure a code).ArbiterAgrees := by
  unfold State.tellFailure
  split
  · exact h.stationFailure code
  · exact h

theorem strikeOut (h : s.ArbiterAgrees) (a : StationNo) : (s.strikeOut a).ArbiterAgrees := by
  unfold State.strikeOut
  split
  · exact ((s.modStation_sameStates a _).keeps h).tellFailure a _
  · exact ((s.modStation_sameStates a _).keeps h).tellFailure a _
  · exact h

theorem busyHalt (h : s.ArbiterAgrees) (a : StationNo) : (s.busyHalt a).ArbiterAgrees := by
  unfold State.busyHalt
  split
  · exact ((s.modStation_sameStates a _).keeps h).tellFailure a _
  · exact h

theorem modLink (h : s.ArbiterAgrees) (a : StationNo) (f : Link → Link) : (s.modLink a f).ArbiterAgrees :=
  (s.modLink_sameStates a f).keeps h

theorem setDue (h : s.ArbiterAgrees) (a : StationNo) : (s.setDue a).ArbiterAgrees := h.modLink a _

theorem failedAttempt (h : s.ArbiterAgrees) (t : Transaction) : (s.failedAttempt t).ArbiterAgrees := by
  unfold State.failedAttempt
  split
  · exact ((h.modLink _ _).strikeOut _).setDue _
  · exact h.modLink _ _

theorem busyAnswer (h : s.ArbiterAgrees) (a : StationNo) : (s.busyAnswer a).ArbiterAgrees := by
  unfold State.busyAnswer
  dsimp only
  split
  · exact (((h.modLink a _).modLink a _).busyHalt a).setDue a
  · exact (h.modLink a _).setDue a

theorem success (h : s.ArbiterAgrees) (t : Transaction) (r : Report) : (s.success t r).ArbiterAgrees :=
  ((h.modLink _ _).fileReport _ _ r).setDue _

theorem judge (h : s.ArbiterAgrees) (t : Transaction) (e : Ending) : (s.judge t e).ArbiterAgrees := by
  unfold State.judge
  split
  · exact h.failedAttempt t
  · exact h.busyAnswer _
  · split
    · exact h.success t _
    · exact (h.modLink _ _).failedAttempt t

theorem endTransaction (h : s.ArbiterAgrees) (t : Transaction) (e : Ending) : (s.endTransaction t e).ArbiterAgrees := by
  have hline : s.endLine.ArbiterAgrees := State.SameStates.keeps (.of_records rfl rfl) h
  unfold State.endTransaction
  split
  · dsimp only
    split
    · exact (State.noticeEnded_sameStates _ _).keeps (hline.judge t e)
    · exact hline.judge t e
  · exact hline

theorem updateAlerts (h : s.ArbiterAgrees) : s.updateAlerts.ArbiterAgrees := s.updateAlerts_sameStates.keeps h

theorem endWith (h : s.ArbiterAgrees) (ending : Transaction → Ending) : (s.endWith ending).ArbiterAgrees := by
  unfold State.endWith
  split
  · exact (h.endTransaction _ _).updateAlerts
  · exact h

/-! ### Timers, notices and samples -/

theorem onExpiry (h : s.ArbiterAgrees) {st : MState} {timer : Option Time} {f : State → State}
    (hf : (s.mover m).state = st → (f s).ArbiterAgrees) : (s.onExpiry m st timer f).ArbiterAgrees := by
  rcases s.onExpiry_cases m st timer f with ⟨hm, -, ht⟩ | ⟨-, ht⟩ <;> rw [ht]
  · exact (hf hm).updateAlerts
  · exact h

theorem takeIntrusion (h : s.ArbiterAgrees) : (s.takeIntrusion m).ArbiterAgrees := by
  unfold State.takeIntrusion
  split
  · have htaken : State.ArbiterAgrees { s with toMovers := s.toMovers.erase m } := h
    exact (htaken.enterFaulted _).updateAlerts
  · exact h

/-- What each member of a list does in agreement, the whole list does. -/
theorem foldl {α : Type} {f : State → α → State} (hf : ∀ (s : State) x, s.ArbiterAgrees → (f s x).ArbiterAgrees)
    (h : s.ArbiterAgrees) (xs : List α) : (xs.foldl f s).ArbiterAgrees := by
  induction xs generalizing s with
  | nil => exact h
  | cons x xs ih => exact ih (hf s x h)

theorem classNotice (h : s.ArbiterAgrees) (ch : ChannelNo) : (s.classNotice ch).ArbiterAgrees :=
  foldl (fun s m h => by
    split
    · exact h.stormReact
    · exact h) h _

theorem windSample (h : s.ArbiterAgrees) (ch : ChannelNo) (statusHigh : Bool) :
    (s.windSample ch statusHigh).ArbiterAgrees := by
  have hsample : (s.modChannel ch
      (Channel.sample s.wind.settings (scaleOf s.wind.settings ch) statusHigh)).ArbiterAgrees := h
  unfold State.windSample
  dsimp only
  split
  · refine updateAlerts ?_
    split
    · exact hsample.classNotice ch
    · exact hsample
  · exact h

end State.ArbiterAgrees

/-! ### The opening (R66, R76) -/

/-- After an entry to a state that does not count, the count is right once what mover m counted for is taken from it. -/
theorem State.CountAgrees.enter {s t : State} {m : MoverNo} {st : MState} (h : s.CountAgrees) (ht : s.Enters t m st)
    (hnew : st.counting = false) (queue : List QueueEntry) :
    State.CountAgrees { t with
      arbiter := { t.arbiter with count := t.arbiter.count - (s.mover m).state.counting.toNat, queue := queue } } := by
  have hcount := ht.countingMovers
  rw [hnew] at hcount
  have hle := h.count_le
  constructor <;> dsimp only <;> rw [ht.arbiter]
  · exact h.limit
  · rw [h.count]
    exact (Nat.eq_sub_of_add_eq hcount).symm
  · omega

/-- The state of the part between the movers that an opening acts on: the queue is empty, though movers not yet acted on stand in
QUEUED. -/
structure State.Opening (s : State) : Prop extends s.CountAgrees where
  queue : s.arbiter.queue = []

/-- An exit told to the Arbiter while its queue is empty admits no one: the change of state is all there is. -/
theorem State.Opening.departed {s t : State} {m : MoverNo} {st : MState} (h : s.Opening) (ht : s.Enters t m st)
    (hnew : st.counting = false) :
    (t.departed m (s.mover m).state).Opening ∧ s.StateChange (t.departed m (s.mover m).state) m st := by
  have hqueue : t.arbiter.queue = [] := by rw [ht.arbiter, h.queue]
  have hcount := h.toCountAgrees.enter ht hnew []
  rcases t.departed_cases m (s.mover m).state with ⟨hold, hd⟩ | ⟨hold, hd⟩ | ⟨-, hold, hd⟩ <;> rw [hd]
  · rw [hold] at hcount
    have hfree : t.unqueue m = { t with arbiter := { t.arbiter with count := t.arbiter.count - 0, queue := [] } } := by
      rw [State.unqueue, hqueue]
      rfl
    rw [hfree]
    exact ⟨⟨hcount, rfl⟩, ht.entered, ht.others⟩
  · rw [hold, ← hqueue] at hcount
    have hleave : t.leaveCounting = { t with arbiter := { t.arbiter with count := t.arbiter.count - 1 } } :=
      State.admitQueue_nil hqueue
    rw [hleave]
    exact ⟨⟨hcount, hqueue⟩, ht.entered, ht.others⟩
  · rw [hold, ← hqueue] at hcount
    exact ⟨⟨hcount, hqueue⟩, ht.toStateChange⟩

/-- The opening at one mover leaves it in no state that counts or waits, and every other mover as it was. -/
theorem State.Opening.openMover {s : State} (h : s.Opening) (m : MoverNo) :
    (s.openMover m).Opening ∧ ∃ st, st ≠ .queued ∧ s.StateChange (s.openMover m) m st := by
  unfold State.openMover
  split
  next hm =>
    have henter := s.enterLockedOut_enters m (some .estop)
    have hstay := h.departed henter rfl
    rw [hm] at hstay
    exact ⟨hstay.1, _, by decide, hstay.2⟩
  · rcases s.enterFaulted_cases m .estop with ⟨-, ht⟩ | ⟨hout, ht⟩ <;> rw [ht]
    · have henter : s.Enters ((s.modMover m (Mover.toFaulted .estop)).standAll m .hold true) m .faulted :=
        .followed (State.standAll_sameStates _ m _ _) (s.modMover_enters m rfl)
      have hfault := h.departed henter rfl
      exact ⟨hfault.1, _, by decide, hfault.2⟩
    · exact ⟨h, _, fun e => (by rw [e] at hout; cases hout), rfl, fun _ _ => rfl⟩

/-- After the opening at a list of movers none of them is QUEUED, nor any that was not before. -/
theorem State.Opening.foldl {s : State} (h : s.Opening) (ms : List MoverNo) :
    (ms.foldl State.openMover s).Opening ∧
      ∀ n, n ∈ ms ∨ (s.mover n).state ≠ .queued → ((ms.foldl State.openMover s).mover n).state ≠ .queued := by
  induction ms generalizing s with
  | nil => exact ⟨h, fun n hn => hn.resolve_left List.not_mem_nil⟩
  | cons m ms ih =>
    obtain ⟨hopen, st, hst, hchange⟩ := h.openMover m
    refine ⟨(ih hopen).1, fun n hn => (ih hopen).2 n ?_⟩
    by_cases hnm : n = m
    · exact .inr (by rw [hnm, hchange.entered]; exact hst)
    · rw [hchange.others n hnm]
      exact hn.imp_left fun hmem => (List.mem_cons.1 hmem).resolve_left hnm

/-- An empty queue agrees with movers of which none is QUEUED. -/
theorem State.Opening.agrees {s : State} (h : s.Opening) (hnone : ∀ n, (s.mover n).state ≠ .queued) :
    s.ArbiterAgrees := by
  refine State.arbiterAgrees_iff.2 ⟨⟨h.toCountAgrees, fun n => ?_, ?_⟩, fun hne => absurd h.queue hne⟩ <;> rw [h.queue]
  · exact iff_of_false List.not_mem_nil (hnone n)
  · exact List.nodup_nil

theorem State.ArbiterAgrees.openMovers {s : State} (h : s.ArbiterAgrees) : s.openMovers.ArbiterAgrees := by
  have hbooks := h.books
  have hempty : State.Opening { s with arbiter := { s.arbiter with queue := [] } } :=
    ⟨⟨hbooks.limit, hbooks.count, hbooks.count_le⟩, rfl⟩
  obtain ⟨hopen, hnone⟩ := hempty.foldl (List.finRange 12)
  exact (State.giveNotices_sameStates _ _).keeps (hopen.agrees fun n => hnone n (.inl (List.mem_finRange n)))

theorem State.ArbiterAgrees.takeOpeningMovers {s : State} (h : s.ArbiterAgrees) : s.takeOpeningMovers.ArbiterAgrees := by
  unfold State.takeOpeningMovers
  split
  · exact h
  · have htaken : State.ArbiterAgrees { s with openingsMovers := s.openingsMovers - 1 } := h
    exact htaken.openMovers.updateAlerts

/-! ### The closed form of an admission (R52, R72, R74, R91) -/

/-- Mover m's record after the admission of the listed movers. -/
def Mover.admitted (now : Time) (entered : List MoverNo) (m : MoverNo) (x : Mover) : Mover :=
  if m ∈ entered then x.toStarting now else x

/-- A station record after the admission of the listed movers. -/
def Station.admitted (entered : List MoverNo) (st : Station) : Station :=
  if ∃ m ∈ entered, st.serves m = true then { st with standing := some driveZero, urgent := false, trim := 0 } else st

/-- The part after the listed movers have entered STARTING. -/
def State.admitted (s : State) (entered : List MoverNo) : State :=
  { s with
    movers := tmap (Mover.admitted s.now entered) s.movers
    stations := tmap (fun _ => Station.admitted entered) s.stations }

theorem State.admitted_nil (s : State) : s.admitted [] = s := by
  have hmovers : tmap (Mover.admitted s.now []) s.movers = s.movers := table_ext fun n => by simp [Mover.admitted]
  have hstations : tmap (fun _ => Station.admitted []) s.stations = s.stations :=
    table_ext fun a => by simp [Station.admitted]
  rw [State.admitted, hmovers, hstations]

theorem Mover.toStarting_toStarting (now : Time) (x : Mover) : (x.toStarting now).toStarting now = x.toStarting now := rfl

/-- An admission of one more mover, before the others and whatever the Arbiter wrote for it. -/
theorem State.admitted_enterStarting (s : State) (a : Arbiter) (m : MoverNo) (ms : List MoverNo) :
    (State.enterStarting { s with arbiter := a } m).admitted ms = { s.admitted (m :: ms) with arbiter := a } := by
  have hmovers : tmap (Mover.admitted s.now ms) (tset s.movers m ((tget s.movers m).toStarting s.now)) =
      tmap (Mover.admitted s.now (m :: ms)) s.movers := table_ext fun n => by
    by_cases hn : n = m
    · subst hn
      simp [Mover.admitted, Mover.toStarting_toStarting]
    · simp [Mover.admitted, tget_tset, hn]
  have hstations : tmap (fun _ => Station.admitted ms) (tmap (fun _ st =>
        if st.serves m then { Station.stand driveZero false st with trim := 0 } else st) s.stations) =
      tmap (fun _ => Station.admitted (m :: ms)) s.stations := table_ext fun b => by
    by_cases hb : (tget s.stations b).serves m = true
    · simp [Station.admitted, Station.stand, hb]
    · simp [Station.admitted, hb]
  rw [State.admitted, State.admitted, ← hmovers, ← hstations]
  rfl

/-- Admission takes from the head as many movers as there are places under the limit, and leaves the rest of the queue. -/
theorem State.admitQueue_eq (s : State) :
    s.admitQueue =
      { s.admitted ((s.arbiter.queue.take (s.arbiter.limit - s.arbiter.count)).map (·.mover)) with
        arbiter :=
          { limit := s.arbiter.limit
            count := s.arbiter.count + (s.arbiter.queue.take (s.arbiter.limit - s.arbiter.count)).length
            queue := s.arbiter.queue.drop (s.arbiter.limit - s.arbiter.count) } } := by
  induction hq : s.arbiter.queue generalizing s with
  | nil =>
    rw [State.admitQueue_nil hq, List.take_nil, List.drop_nil, List.map_nil, State.admitted_nil]
    exact congrArg (fun queue => { s with arbiter := { s.arbiter with queue := queue } }) hq
  | cons e rest ih =>
    by_cases hlt : s.arbiter.count < s.arbiter.limit
    · have hplaces : s.arbiter.limit - s.arbiter.count = s.arbiter.limit - (s.arbiter.count + 1) + 1 := by omega
      rw [State.admitQueue_head hq hlt, ih _ (by simp), State.admitted_enterStarting, hplaces]
      simp [Nat.add_assoc, Nat.add_comm 1]
    · have hplaces : s.arbiter.limit - s.arbiter.count = 0 := by omega
      rw [State.admitQueue_full (Nat.le_of_not_lt hlt), hplaces, List.take_zero, List.drop_zero, List.map_nil,
        State.admitted_nil, ← hq]
      rfl

/-! ### SET_ADMISSION (R78) -/

theorem clampNat_eq_min_max {x lo hi : Nat} (h : lo ≤ hi) : clampNat x lo hi = min hi (max lo x) := by
  unfold clampNat
  split_ifs <;> omega

/-- A limit below the count is refused. -/
theorem State.setAdmission_inUse {s : State} {limit : Nat} (h : clampNat limit 1 12 < s.arbiter.count) :
    s.setAdmission limit = s.reply 0x40 .inUse [u8 s.arbiter.count, u8 s.arbiter.limit] := by
  rw [State.setAdmission]
  exact if_pos h

/-- The present limit is answered. -/
theorem State.setAdmission_same {s : State} {limit : Nat} (h : s.arbiter.count ≤ s.arbiter.limit)
    (hsame : clampNat limit 1 12 = s.arbiter.limit) : s.setAdmission limit = s.reply 0x40 .ok [] := by
  rw [State.setAdmission, hsame]
  dsimp only
  rw [if_neg (Nat.not_lt.2 h), if_pos rfl]

/-- Any other limit is stored and admits what it has room for: of a lowered one that is nothing, since no mover waits. -/
theorem State.setAdmission_stored {s : State} {limit : Nat} (h : s.ArbiterAgrees)
    (hcount : s.arbiter.count ≤ clampNat limit 1 12) (hnew : clampNat limit 1 12 ≠ s.arbiter.limit) :
    s.setAdmission limit =
      ((State.admitQueue { s with arbiter := { s.arbiter with limit := clampNat limit 1 12 } }).reply 0x40 .ok
        (u8 (clampNat limit 1 12) ::
          listed (s.arbiter.queue.take (clampNat limit 1 12 - s.arbiter.count)) fun e => [u8 e.mover.val])).updateAlerts := by
  rw [State.setAdmission]
  generalize clampNat limit 1 12 = v at *
  dsimp only
  rw [if_neg (Nat.not_lt.2 hcount), if_neg hnew]
  have hadmit : (if decide (s.arbiter.limit < v) then
        State.admitQueue { s with arbiter := { s.arbiter with limit := v } }
      else { s with arbiter := { s.arbiter with limit := v } }) =
      State.admitQueue { s with arbiter := { s.arbiter with limit := v } } := by
    by_cases hraised : s.arbiter.limit < v
    · simp [hraised]
    · have hnil : s.arbiter.queue = [] := h.queue_nil (by omega)
      rw [State.admitQueue_nil (s := { s with arbiter := { s.arbiter with limit := v } }) hnil, ite_self]
  have hleft : (State.admitQueue { s with arbiter := { s.arbiter with limit := v } }).arbiter.queue =
      s.arbiter.queue.drop (v - s.arbiter.count) := by rw [State.admitQueue_eq]
  have htaken : s.arbiter.queue.take (s.arbiter.queue.length - (s.arbiter.queue.drop (v - s.arbiter.count)).length) =
      s.arbiter.queue.take (v - s.arbiter.count) := by
    rw [List.length_drop, List.take_eq_take_iff]
    omega
  rw [hadmit, hleft, htaken]

theorem State.ArbiterAgrees.setAdmission {s : State} (h : s.ArbiterAgrees) (limit : Nat) :
    (s.setAdmission limit).ArbiterAgrees := by
  have hbooks := h.books
  by_cases hlt : clampNat limit 1 12 < s.arbiter.count
  · rw [State.setAdmission_inUse hlt]
    exact h
  · by_cases hsame : clampNat limit 1 12 = s.arbiter.limit
    · rw [State.setAdmission_same hbooks.count_le hsame]
      exact h
    · rw [State.setAdmission_stored h (Nat.le_of_not_lt hlt) hsame]
      have hrange : 1 ≤ clampNat limit 1 12 ∧ clampNat limit 1 12 ≤ 12 := by
        rw [clampNat_eq_min_max (by decide)]
        omega
      have hstored : State.BooksAgree { s with arbiter := { s.arbiter with limit := clampNat limit 1 12 } } :=
        ⟨⟨hrange, hbooks.count, Nat.le_of_not_lt hlt⟩, hbooks.queued, hbooks.nodup⟩
      exact State.ArbiterAgrees.updateAlerts ((State.reply_sameStates _ _ _ _).keeps hstored.admitQueue)

/-! ### The requests about movers -/

/-- UNLOCK passes its checks in LOCKED_OUT alone (R45). -/
theorem State.lockedOut_of_unlockRefusal {s : State} {m : MoverNo} (h : s.unlockRefusal m = none) :
    (s.mover m).state = .lockedOut := by
  unfold State.unlockRefusal at h
  split at h
  · cases h
  next hm => exact Decidable.not_not.1 hm

/-- RESET_FAULT passes its checks in FAULTED alone (R60). -/
theorem State.faulted_of_resetRefusal {s : State} {m : MoverNo} (h : s.resetRefusal m = none) :
    (s.mover m).state = .faulted := by
  unfold State.resetRefusal at h
  split at h
  · cases h
  · split at h
    · cases h
    next hm => exact Decidable.not_not.1 hm

namespace State.ArbiterAgrees

variable {s : State}

theorem reply (h : s.ArbiterAgrees) (c : Byte) (st : Status) (items : List Item) : (s.reply c st items).ArbiterAgrees := h

theorem unlock (h : s.ArbiterAgrees) (mover : Nat) : (s.unlock mover).ArbiterAgrees := by
  unfold State.unlock
  split
  · exact h.reply _ _ _
  · split
    · exact h.reply _ _ _
    next hpassed =>
      exact ((h.enterEnrolling (by rw [State.lockedOut_of_unlockRefusal hpassed]; rfl)).reply _ _ _).updateAlerts

theorem lock (h : s.ArbiterAgrees) (mover : Nat) : (s.lock mover).ArbiterAgrees := by
  unfold State.lock
  split
  · exact h.reply _ _ _
  · split
    next hm => exact ((h.lockRun (by rw [hm]; rfl)).reply _ _ _).updateAlerts
    next hm => exact ((h.lockRun (by rw [hm]; rfl)).reply _ _ _).updateAlerts
    next hm => exact ((h.lockOut (by rw [hm]; rfl) _).reply _ _ _).updateAlerts
    · exact h.reply _ _ _
    · exact h.reply _ _ _

theorem retargetAndRequest (h : s.ArbiterAgrees) {m : MoverNo} (hm : (s.mover m).state.atRest = true)
    (target profile : Nat) (d : Dir) :
    ((s.modMover m fun x => { x.retarget target profile with dir := d }).requestAdmission m).ArbiterAgrees := by
  have hsame : s.SameStates (s.modMover m fun x => { x.retarget target profile with dir := d }) :=
    s.modMover_sameStates m fun _ => rfl
  exact (hsame.keeps h).requestAdmission (by rw [hsame.state m, hm])

theorem retarget (h : s.ArbiterAgrees) (m : MoverNo) (target profile : Nat) :
    (s.modMover m (Mover.retarget target profile)).ArbiterAgrees :=
  (s.modMover_sameStates m (f := Mover.retarget target profile) fun _ => rfl).keeps h

theorem moveByState (h : s.ArbiterAgrees) (m : MoverNo) (target profile : Nat) :
    (s.moveByState m target profile).ArbiterAgrees := by
  have hunderway : (if requestDir target ((s.mover m).reference.getD 0) = (s.mover m).dir then
        (s.modMover m (Mover.retarget target profile)).reply 0x23 .ok [u16 profile]
      else s.reply 0x23 .refusedDirection []).ArbiterAgrees := by
    split
    · exact (h.retarget m target profile).reply _ _ _
    · exact h.reply _ _ _
  unfold State.moveByState
  dsimp only
  split
  next hm => exact (h.retargetAndRequest (by rw [hm]; rfl) _ _ _).reply _ _ _
  next hm => exact (h.retargetAndRequest (by rw [hm]; rfl) _ _ _).reply _ _ _
  · exact hunderway
  · exact hunderway
  · exact hunderway
  · exact h.reply _ _ _

theorem move (h : s.ArbiterAgrees) (mover target profile : Nat) : (s.move mover target profile).ArbiterAgrees := by
  unfold State.move
  split
  · exact h.reply _ _ _
  · split
    · exact h.reply _ _ _
    · split
      · split
        · exact h.reply _ _ _
        · exact h.moveByState _ _ _
      · exact h.reply _ _ _

theorem stop (h : s.ArbiterAgrees) (mover : Nat) : (s.stop mover).ArbiterAgrees := by
  unfold State.stop
  split
  · exact h.reply _ _ _
  · exact h.stopMover.reply _ _ _

theorem stopAll (h : s.ArbiterAgrees) : s.stopAll.ArbiterAgrees :=
  (foldl (fun _ _ h => h.stopMover) h (List.finRange 12)).reply _ _ _

theorem resetFault (h : s.ArbiterAgrees) (mover : Nat) : (s.resetFault mover).ArbiterAgrees := by
  unfold State.resetFault
  split
  · exact h.reply _ _ _
  · split
    · exact h.reply _ _ _
    next hpassed =>
      exact ((h.clearFault (by rw [State.faulted_of_resetRefusal hpassed]; rfl)).reply _ _ _).updateAlerts

/-! ### Every request, and the port that takes them -/

/-- Whatever request the owning block acts on, the Arbiter agrees after it. -/
theorem serve (h : s.ArbiterAgrees) (i : Instr) : (s.serve i).ArbiterAgrees := by
  cases i with
  | defineTrack => exact (s.defineTrack_sameStates _ _ _ _).keeps h
  | removeTrack => exact (s.removeTrack_sameStates _).keeps h
  | queryTrack => exact (s.queryTrack_sameStates _).keeps h
  | blockSegment => exact (s.blockSegment_sameStates _).keeps h
  | unblockSegment => exact (s.unblockSegment_sameStates _).keeps h
  | querySegment => exact (s.querySegment_sameStates _).keeps h
  | reserve => exact (s.reserve_sameStates _ _ _).keeps h
  | release => exact (s.release_sameStates _ _ _).keeps h
  | configureMover => exact (s.configureMover_sameStates _ _).keeps h
  | unlock => exact h.unlock _
  | lock => exact h.lock _
  | move => exact h.move _ _ _
  | stop => exact h.stop _
  | stopAll => exact h.stopAll
  | resetFault => exact h.resetFault _
  | queryMover => exact (s.queryMover_sameStates _).keeps h
  | assignStation => exact (s.assignStation_sameStates _ _ _ _ _ _).keeps h
  | unassignStation => exact (s.unassignStation_sameStates _).keeps h
  | queryStation => exact (s.queryStation_sameStates _ _).keeps h
  | setAdmission => exact h.setAdmission _
  | setWind => exact (s.setWind_sameStates _).keeps h
  | _ => exact h

theorem actOn (h : s.ArbiterAgrees) (f : Frame) : (s.actOn f).ArbiterAgrees := by
  unfold State.actOn
  split
  · exact h.serve _
  · exact h.reply _ _ _

/-- What stands at the port is no matter of the Arbiter's. -/
theorem withPort (h : s.ArbiterAgrees) (p : Port) : State.ArbiterAgrees { s with port := p } := h

theorem takeNext (h : s.ArbiterAgrees) : s.takeNext.ArbiterAgrees := by
  unfold State.takeNext
  split
  · exact ((h.withPort _).actOn _).withPort _
  · exact h

theorem frameEnded (h : s.ArbiterAgrees) (bytes : List Byte) (spoiled : Bool) :
    (s.frameEnded bytes spoiled).ArbiterAgrees := by
  rcases s.frameEnded_cases bytes spoiled with ⟨-, ht⟩ | ⟨f, -, -, ht⟩ <;> rw [ht]
  · exact h
  · exact (h.withPort _).takeNext

theorem receiveByte (h : s.ArbiterAgrees) (b : LineByte) : (s.receiveByte b).ArbiterAgrees := by
  unfold State.receiveByte
  dsimp only
  split
  · exact (h.withPort _).frameEnded _ _
  · exact h

theorem receive (h : s.ArbiterAgrees) (line : List LineByte) : (s.receive line).ArbiterAgrees :=
  foldl (fun _ b h => h.receiveByte b) h line

theorem answerSent (h : s.ArbiterAgrees) : s.answerSent.ArbiterAgrees := by
  unfold State.answerSent
  split
  · exact (h.withPort _).takeNext
  · exact h

/-! ### Every command -/

/-- An event that keeps the Arbiter in agreement does so too where a held reset lets nothing happen. -/
theorem whileRunning {t : State} {f : State → State} (h : s.ArbiterAgrees) (ht : s.whileRunning f = .next t)
    (hf : (f s).ArbiterAgrees) : t.ArbiterAgrees := by
  by_cases hreset : s.resetLow = true
  · rw [State.whileRunning_held hreset] at ht
    cases ht
    exact h
  · rw [State.whileRunning_running (by simpa using hreset)] at ht
    cases ht
    exact hf

/-- After full reset the count is 0, the queue empty and every mover LOCKED_OUT (R69, R71). -/
theorem fullReset (s : State) : s.fullReset.ArbiterAgrees := by
  have hstate (m) : (s.fullReset.mover m).state = .lockedOut := congrArg Mover.state (s.fullReset_mover m)
  refine ⟨(by decide : 1 ≤ 2 ∧ 2 ≤ 12), ?_, Nat.zero_le _, fun m => ?_, List.nodup_nil, fun hne => absurd rfl hne⟩
  · simp only [hstate]
    rfl
  · rw [hstate]
    exact iff_of_false List.not_mem_nil (by decide)

/-- A change on a hardwired input is no matter of the Arbiter's. -/
theorem inputChange {t : State} {held running : Inputs → Inputs} (h : s.ArbiterAgrees)
    (ht : Host.Outcome.next (s.inputChange held running) = (.next t : Host.Outcome State Fault Refusal)) :
    t.ArbiterAgrees := by
  cases ht
  exact State.SameStates.keeps (.of_records rfl rfl) h

/-- Every command keeps the Arbiter in agreement with the movers. -/
theorem exec {t : State} {c : Instr} (h : s.ArbiterAgrees) (ht : Machine.exec c s = .next t) : t.ArbiterAgrees := by
  have hrequest (hc : Machine.exec c s = s.whileRunning fun s => s.serve c) : t.ArbiterAgrees :=
    h.whileRunning (hc.symm.trans ht) (h.serve c)
  cases c with
  | fullReset =>
    cases ht
    exact fullReset s
  | resetInputReleased =>
    cases ht
    exact s.resetReleased_sameStates.keeps h
  | rainInputChange | estopInputChange => exact h.inputChange ht
  | frameReceived | frameLengthDrop => exact h.whileRunning (f := fun s => s.receive _) ht (h.receive _)
  | frameGapTimeout => exact h.whileRunning ht (h.withPort _)
  | answerSent => exact h.whileRunning ht h.answerSent
  | transactionStart => exact h.whileRunning ht (s.transactionStart_sameStates.keeps h)
  | broadcastHoldStart => exact h.whileRunning ht (s.broadcastStart_sameStates.keeps h)
  | broadcastHoldEnd => exact h.whileRunning ht (s.broadcastEnd_sameStates.keeps h)
  | commandFrameEnd => exact h.whileRunning ht (s.commandFrameEnd_sameStates.keeps h)
  | openingNoticeFieldLink => exact h.whileRunning ht (s.takeOpeningFieldLink_sameStates.keeps h)
  | fieldAnswerReceived | answerBreak | answerWindowClosed => exact h.whileRunning (f := fun s => s.endWith _) ht (h.endWith _)
  | provingTimerExpiry => exact h.whileRunning ht (s.provingExpiry_sameStates.keeps h)
  | consistentFinding => exact h.whileRunning (f := fun s => s.takeConsistent _) ht ((s.takeConsistent_sameStates _).keeps h)
  | inconsistentFinding => exact h.whileRunning (f := fun s => s.takeInconsistent _) ht ((s.takeInconsistent_sameStates _).keeps h)
  | trailingRelease => exact h.whileRunning (f := fun s => s.takeTrailing _) ht ((s.takeTrailing_sameStates _).keeps h)
  | intrusionNotice => exact h.whileRunning ht h.takeIntrusion
  | enrolTimerExpiry m =>
    exact h.whileRunning (f := fun s => s.onExpiry m .enrolling _ fun s => s.lockOut m _) ht
      (h.onExpiry fun hm => h.lockOut (by rw [hm]; rfl) _)
  | startTimerExpiry m =>
    exact h.whileRunning (f := fun s => s.onExpiry m .starting _ fun s => s.enterFaulted m _) ht
      (h.onExpiry fun _ => h.enterFaulted _)
  | permitTimerExpiry m =>
    exact h.whileRunning (f := fun s => s.onExpiry m .moving _ fun s => s.enterFaulted m _) ht
      (h.onExpiry fun _ => h.enterFaulted _)
  | dwellTimerExpiry m =>
    exact h.whileRunning (f := fun s => s.onExpiry m .moving _ fun s => s.enterStopping m _) ht
      (h.onExpiry fun hm => h.enterStopping (by rw [hm]; rfl) _)
  | stopTimerExpiry m =>
    exact h.whileRunning (f := fun s => s.onExpiry m .stopping _ fun s => s.enterFaulted m _) ht
      (h.onExpiry fun _ => h.enterFaulted _)
  | anemometerPulse =>
    exact h.whileRunning (f := fun s => s.modChannel _ _) ht (State.SameStates.keeps (.of_records rfl rfl) h)
  | windSample => exact h.whileRunning (f := fun s => s.windSample _ _) ht (h.windSample _ _)
  | rainOnExpiry => exact h.whileRunning ht (s.rainOn_sameStates.keeps h)
  | rainOffExpiry => exact h.whileRunning ht (s.rainOff_sameStates.keeps h)
  | chainOpen => exact h.whileRunning ht (s.chainOpens_sameStates.keeps h)
  | chainClosed => exact h.whileRunning ht (s.chainCloses_sameStates.keeps h)
  | openingNoticeMovers => exact h.whileRunning ht h.takeOpeningMovers
  | _ => exact hrequest rfl

end State.ArbiterAgrees

/-- With a command waiting a step is that command, taken from the front of the queue. -/
theorem step_front {s : State} {c : Instr} {rest : List Instr} (h : s.pending = c :: rest) :
    step s = exec c { s with pending := rest } := by
  unfold step
  rw [h]

end Sys2Proof.Machine

section

open Sys2Proof Sys2Proof.Machine

/-- Settles O11: an idle step is a tick, which changes no mover, and every command keeps the agreement. -/
theorem arbiterAgreesAtEveryStep : Obligations.ArbiterAgreesAtEveryStep := by
  intro s t hs hstep
  cases hpending : s.pending with
  | nil =>
    rw [step_idle hpending] at hstep
    cases hstep
    exact s.tick_sameStates.keeps hs
  | cons c rest =>
    rw [step_front hpending] at hstep
    have htaken : State.ArbiterAgrees { s with pending := rest } := hs
    exact htaken.exec hstep

/-- Settles O45, by where the clamped limit lies to the count and to the present limit. -/
theorem setAdmission : Obligations.SetAdmission := by
  intro s limit hrunning hs v
  have hv : clampNat limit 1 12 = v := clampNat_eq_min_max (by decide)
  have hexec : exec (.setAdmission limit) s = .next (s.setAdmission limit) :=
    State.whileRunning_running hrunning fun s => s.setAdmission limit
  rw [hexec]
  refine ⟨fun hlt => ?_, fun hsame => ?_, fun hcount hnew => ?_⟩
  · rw [State.setAdmission_inUse (hv ▸ hlt)]
    rfl
  · rw [State.setAdmission_same hs.books.count_le (hv ▸ hsame)]
    rfl
  · intro entered
    have hlength : (s.arbiter.queue.take (v - s.arbiter.count)).length = entered.length := (List.length_map _).symm
    have hitems : u8 v :: listed (s.arbiter.queue.take (v - s.arbiter.count)) (fun e => [u8 e.mover.val]) =
        [u8 v, u8 entered.length] ++ entered.map fun m => u8 m.val := by
      rw [listed, hlength, ← List.map_eq_flatMap, List.map_map]
      rfl
    rw [State.setAdmission_stored hs (hv ▸ hcount) (hv ▸ hnew), hv, State.admitQueue_eq, hitems, ← hlength]
    rfl

end
end

section
/-!
The speed-authority law and the skew trim as computations (Chapter 5): the bounds of the square root, the ramp, the creep floor and
the clamp, each proved of its own definition; the three endings of the law; the branches of the trimmed speed. Then the statements.
-/

namespace Sys2Proof.Machine

open Sys2Proof

/-! ### The integer square root (R80) -/

/-- Digits are kept only while the square stays within x, so the root found never exceeds the true one. -/
theorem isqrtFrom_mul_self_le {x : Nat} (n : Nat) {r : Nat} (h : r * r ≤ x) : isqrtFrom x n r * isqrtFrom x n r ≤ x := by
  induction n generalizing r with
  | zero => exact h
  | succ n ih =>
    rw [isqrtFrom]
    split
    next hdigit => exact ih hdigit
    next => exact ih h

/-- With n digits left the true root lies within 2ⁿ above the root found; each digit, taken or not, halves that interval. -/
theorem lt_isqrtFrom_succ_mul_self {x : Nat} (n : Nat) {r : Nat} (h : x < (r + 2 ^ n) * (r + 2 ^ n)) :
    x < (isqrtFrom x n r + 1) * (isqrtFrom x n r + 1) := by
  induction n generalizing r with
  | zero => exact h
  | succ n ih =>
    rw [isqrtFrom]
    split
    next =>
      have hhalves : r + 2 ^ (n + 1) = r + 2 ^ n + 2 ^ n := by rw [pow_succ]; omega
      exact ih (hhalves ▸ h)
    next hdigit => exact ih (not_le.1 hdigit)

/-- The root is never rounded up, whatever the argument. -/
theorem isqrt_mul_self_le (x : Nat) : isqrt x * isqrt x ≤ x := isqrtFrom_mul_self_le 16 (Nat.zero_le x)

/-- Sixteen digits reach the root of every 32-bit argument. -/
theorem lt_isqrt_succ_mul_self {x : Nat} (h : x < 2 ^ 32) : x < (isqrt x + 1) * (isqrt x + 1) :=
  lt_isqrtFrom_succ_mul_self 16 h

/-! ### The distances (R82, R83) -/

/-- The raw authority is at most the distance from the reference to the authority end: the extent only shortens it. -/
theorem rawAuthority_le (c : MoverConfig) (d : Dir) (reference authority : Int) :
    rawAuthority c d reference authority ≤ (authority - reference) * d.sign := by
  cases d with
  | plus => simp only [rawAuthority, frontPosition, Dir.sign]; omega
  | minus => simp only [rawAuthority, frontPosition, Dir.sign]; omega

/-- The standoff only shortens the authority distance. -/
theorem authorityDistance_le {c : MoverConfig} {e : Int} {n : Nat} (h : e ≤ n) : authorityDistance c e ≤ n := by
  rw [authorityDistance]
  omega

theorem authorityDistance_eq_max (c : MoverConfig) (e : Int) : authorityDistance c e = (max 0 (e - c.standoff)).toNat := by
  rw [authorityDistance]
  omega

/-! ### The stages from the limits to the ramp (R85 to R88) -/

theorem lawGoal_le_vMax (i : LawInput) (dAuth dTgt : Nat) : lawGoal i dAuth dTgt ≤ i.config.vMax :=
  (min_le_right _ _).trans (min_le_left _ _)

theorem lawGoal_le_brakingLimit (i : LawInput) (dAuth dTgt : Nat) : lawGoal i dAuth dTgt ≤ brakingLimit i.config dAuth :=
  (min_le_right _ _).trans ((min_le_right _ _).trans (min_le_left _ _))

/-- A bound of the goal that the creep speed also meets, where it can be braked in time, is one of the floored goal. -/
theorem creepFloor_le {c : MoverConfig} {dAuth goal bound : Nat} (hgoal : goal ≤ bound)
    (hcreep : c.creep ≤ brakingLimit c dAuth → c.creep ≤ bound) : creepFloor c dAuth goal ≤ bound := by
  rw [creepFloor]
  split
  next hfloor => exact hcreep hfloor.2.1
  next => exact hgoal

theorem ramp_le_goal (c : MoverConfig) (prevSpeed interval goal : Nat) : ramp c prevSpeed interval goal ≤ goal := by
  rw [ramp]
  split <;> omega

/-- The ramp exceeds the previous speed by no more than its one step. -/
theorem ramp_le_step (c : MoverConfig) (prevSpeed interval goal : Nat) :
    ramp c prevSpeed interval goal ≤ prevSpeed + max 1 (c.accel * interval / 1000) := by
  rw [ramp]
  split <;> omega

/-! ### The law and its three endings -/

/-- The raw authority an evaluation finds (stage 1). -/
def LawInput.rawAuthority (i : LawInput) : Int := Machine.rawAuthority i.config i.dir i.reference i.authority

/-- The authority distance an evaluation finds (stage 2). -/
def LawInput.dAuth (i : LawInput) : Nat := authorityDistance i.config i.rawAuthority

/-- The target distance an evaluation finds (stage 3). -/
def LawInput.dTgt (i : LawInput) : Nat := targetDistance i.target i.reference

/-- The goal with the creep floor (stages 8 and 9). -/
def LawInput.goal (i : LawInput) : Nat := creepFloor i.config i.dAuth (lawGoal i i.dAuth i.dTgt)

/-- The speed commanded short of the target (stage 10). -/
def LawInput.speed (i : LawInput) : Nat := ramp i.config i.prevSpeed (rampInterval i.now i.prevTime) i.goal

theorem speedLaw_overrun {i : LawInput} (h : i.rawAuthority < 0) : speedLaw i = .overrun := if_pos h

theorem speedLaw_arrived {i : LawInput} (he : 0 ≤ i.rawAuthority) (h : i.dTgt ≤ i.config.tolerance) :
    speedLaw i = .output 0 true i.dAuth i.dTgt :=
  (if_neg (not_lt.2 he)).trans (if_pos h)

theorem speedLaw_underway {i : LawInput} (he : 0 ≤ i.rawAuthority) (h : i.config.tolerance < i.dTgt) :
    speedLaw i = .output i.speed false i.dAuth i.dTgt :=
  (if_neg (not_lt.2 he)).trans (if_neg (not_le.2 h))

/-- What an output can be: standstill at the target, or the ramped speed short of it. -/
theorem speedLaw_output_cases {i : LawInput} {v dAuth dTgt : Nat} {arrived : Bool}
    (h : speedLaw i = .output v arrived dAuth dTgt) :
    dAuth = i.dAuth ∧ dTgt = i.dTgt ∧ (arrived = true ∧ v = 0 ∨ arrived = false ∧ v = i.speed) := by
  by_cases he : i.rawAuthority < 0
  · rw [speedLaw_overrun he] at h
    cases h
  · by_cases htarget : i.dTgt ≤ i.config.tolerance
    · rw [speedLaw_arrived (not_lt.1 he) htarget] at h
      cases h
      exact ⟨rfl, rfl, .inl ⟨rfl, rfl⟩⟩
    · rw [speedLaw_underway (not_lt.1 he) (not_le.1 htarget)] at h
      cases h
      exact ⟨rfl, rfl, .inr ⟨rfl, rfl⟩⟩

theorem LawInput.speed_le_brakingLimit (i : LawInput) : i.speed ≤ brakingLimit i.config i.dAuth :=
  (ramp_le_goal ..).trans (creepFloor_le (lawGoal_le_brakingLimit ..) id)

theorem LawInput.speed_le_vMax {i : LawInput} (h : i.config.creep ≤ i.config.vMax) : i.speed ≤ i.config.vMax :=
  (ramp_le_goal ..).trans (creepFloor_le (lawGoal_le_vMax ..) fun _ => h)

/-! ### The trim and the trimmed speed (R95, R96) -/

theorem clampInt_of_mem {x lo hi : Int} (hlo : lo ≤ x) (hhi : x ≤ hi) : clampInt x lo hi = x :=
  (if_neg (not_lt.2 hlo)).trans (if_neg (not_lt.2 hhi))

/-- A clamp between −n and n keeps a magnitude of at most n. -/
theorem natAbs_clampInt_le (x : Int) (n : Nat) : (clampInt x (-(n : Int)) n).natAbs ≤ n := by
  rw [clampInt]
  split
  next => omega
  next => split <;> omega

theorem trimFor_natAbs_le (c : MoverConfig) (skew : Int) : (trimFor c skew).natAbs ≤ c.trimLimit := natAbs_clampInt_le _ _

theorem trimFor_of_le {c : MoverConfig} {skew : Int} (h : ((skew * c.gain).tdiv 16).natAbs ≤ c.trimLimit) :
    trimFor c skew = (skew * c.gain).tdiv 16 :=
  clampInt_of_mem (by omega) (by omega)

theorem Dir.natAbs_sign_mul (d : Dir) (n : Nat) : (d.sign * n).natAbs = n := by
  cases d with
  | plus => simp [Dir.sign]
  | minus => simp [Dir.sign]

theorem Dir.sign_mul_mul_sign (d : Dir) (n : Int) : d.sign * n * d.sign = n := by
  cases d with
  | plus => simp [Dir.sign]
  | minus => simp [Dir.sign]

@[simp] theorem trimmedSpeed_zero (trim : Int) (d : Dir) (vMax : Nat) : trimmedSpeed 0 trim d vMax = 0 := if_pos rfl

section

variable {v trim : Int} {d : Dir} {vMax : Nat}

/-- A speed the trim would turn against the direction is 0. -/
theorem trimmedSpeed_of_against (hv : v ≠ 0) (h : (v - trim) * d.sign < 0) : trimmedSpeed v trim d vMax = 0 := by
  simp [trimmedSpeed, hv, h]

theorem trimmedSpeed_of_within (hv : v ≠ 0) (h : 0 ≤ (v - trim) * d.sign) (hmax : (v - trim).natAbs ≤ vMax) :
    trimmedSpeed v trim d vMax = v - trim := by
  simp [trimmedSpeed, hv, not_lt.2 h, not_lt.2 hmax]

theorem trimmedSpeed_of_beyond (hv : v ≠ 0) (h : 0 ≤ (v - trim) * d.sign) (hmax : vMax < (v - trim).natAbs) :
    trimmedSpeed v trim d vMax = d.sign * vMax := by
  simp [trimmedSpeed, hv, not_lt.2 h, hmax]

end

/-- A trimmed speed is 0, V − trim within both limits, or v_max in the mover's direction. -/
theorem trimmedSpeed_cases (v trim : Int) (d : Dir) (vMax : Nat) :
    trimmedSpeed v trim d vMax = 0 ∨
    (0 ≤ (v - trim) * d.sign ∧ (v - trim).natAbs ≤ vMax ∧ trimmedSpeed v trim d vMax = v - trim) ∨
    trimmedSpeed v trim d vMax = d.sign * vMax := by
  rcases eq_or_ne v 0 with rfl | hv
  · exact .inl (trimmedSpeed_zero ..)
  · rcases lt_or_ge ((v - trim) * d.sign) 0 with hagainst | halong
    · exact .inl (trimmedSpeed_of_against hv hagainst)
    · rcases le_or_gt (v - trim).natAbs vMax with hwithin | hbeyond
      · exact .inr (.inl ⟨halong, hwithin, trimmedSpeed_of_within hv halong hwithin⟩)
      · exact .inr (.inr (trimmedSpeed_of_beyond hv halong hbeyond))

theorem trimmedSpeed_natAbs_le (v trim : Int) (d : Dir) (vMax : Nat) : (trimmedSpeed v trim d vMax).natAbs ≤ vMax := by
  obtain heq | ⟨-, hwithin, heq⟩ | heq := trimmedSpeed_cases v trim d vMax
  · simp [heq]
  · rwa [heq]
  · rw [heq, d.natAbs_sign_mul]

/-- A trimmed speed never runs against the mover's direction. -/
theorem trimmedSpeed_mul_sign_nonneg (v trim : Int) (d : Dir) (vMax : Nat) : 0 ≤ trimmedSpeed v trim d vMax * d.sign := by
  obtain heq | ⟨halong, -, heq⟩ | heq := trimmedSpeed_cases v trim d vMax
  · simp [heq]
  · rwa [heq]
  · rw [heq, d.sign_mul_mul_sign]
    exact Int.natCast_nonneg vMax

end Sys2Proof.Machine

section

open Sys2Proof Sys2Proof.Machine

/-- Settles O20, by the two invariants of the digit search, the root not above and less than 2ⁿ below the true one. -/
theorem squareRootExact : Obligations.SquareRootExact := by
  refine ⟨rfl, fun x hx => ⟨isqrt_mul_self_le x, lt_isqrt_succ_mul_self hx⟩, ?authority, ?target, ?argument⟩
  case authority =>
    intro c d r e hr hr' he he'
    have hspan : (e - r) * d.sign ≤ (1200000 : Nat) := by
      cases d with
      | plus => simp only [Dir.sign]; omega
      | minus => simp only [Dir.sign]; omega
    exact authorityDistance_le ((rawAuthority_le c d r e).trans hspan)
  case target =>
    intro target r hr hr' htarget
    rw [targetDistance]
    omega
  case argument =>
    intro b d hb hd
    have hproduct : 2 * b * d ≤ 2 * 500 * 1200000 := Nat.mul_le_mul (Nat.mul_le_mul_left 2 hb) hd
    omega

/-- Settles O22: standstill meets every bound, and the ramped speed lies below the floored goal, which the braking limit and
v_max bound. -/
theorem speedLawSafe : Obligations.SpeedLawSafe := by
  intro i v dAuth dTgt arrived hcreep hout
  obtain ⟨rfl, -, ⟨-, rfl⟩ | ⟨rfl, rfl⟩⟩ := speedLaw_output_cases hout
  · exact ⟨Nat.zero_le _, by simp, Nat.zero_le _, fun _ => rfl, fun _ => Nat.zero_le _⟩
  · have hbrake : i.speed ≤ isqrt (2 * i.config.brake * i.dAuth) := i.speed_le_brakingLimit
    exact ⟨hbrake, (Nat.mul_self_le_mul_self hbrake).trans (isqrt_mul_self_le _), LawInput.speed_le_vMax hcreep, nofun,
      fun _ => ramp_le_step ..⟩

/-- Settles O23, by the branches of the clamp and of the trimmed speed. -/
theorem trimRules : Obligations.TrimRules := by
  refine ⟨fun _ _ _ => rfl, fun c skew => ⟨trimFor_natAbs_le c skew, ?noTrim, trimFor_of_le⟩, fun v trim d vMax =>
    ⟨trimmedSpeed_zero .., trimmedSpeed_natAbs_le .., trimmedSpeed_mul_sign_nonneg .., trimmedSpeed_of_within,
      trimmedSpeed_of_against, trimmedSpeed_of_beyond⟩⟩
  case noTrim =>
    rintro (hgain | hlimit)
    · have hraw : (skew * c.gain).tdiv 16 = 0 := by simp [hgain]
      rw [trimFor_of_le (by simp [hraw]), hraw]
    · exact Int.natAbs_eq_zero.1 (Nat.le_zero.1 (hlimit ▸ trimFor_natAbs_le c skew))

/-- Settles O21: the statement's terms are the stages' own definitions, and the three endings are the law's. -/
theorem speedLawStages : Obligations.SpeedLawStages := by
  intro i e dAuth dTgt vA vT p goal8 goal dt v
  have he : e = i.rawAuthority := by
    simp only [e, LawInput.rawAuthority, rawAuthority]
    cases i.dir with
    | plus => rfl
    | minus => rfl
  have hAuth : dAuth = i.dAuth := by rw [LawInput.dAuth, authorityDistance_eq_max, ← he]
  have hp : p = windPercent i.cls i.config.exempt := by
    simp only [p]
    cases i.cls with
    | calm | breezy | strong | storm => rfl
  have hdt : dt = rampInterval i.now i.prevTime := by
    simp only [dt]
    cases i.prevTime with
    | none => rfl
    | some t => rfl
  have hgoal8 : goal8 = lawGoal i i.dAuth i.dTgt := by
    rw [lawGoal, windLimit, ← hp, ← hAuth]
    rfl
  have hgoal : goal = i.goal := by
    rw [LawInput.goal, ← hgoal8, ← hAuth]
    rfl
  have hv : v = i.speed := by
    rw [LawInput.speed, ← hgoal, ← hdt]
    rfl
  rw [he, hAuth, hv]
  exact ⟨speedLaw_overrun, speedLaw_arrived, speedLaw_underway⟩

end
end

section
/-!
Stations in and out of service (R118, R122, R123). First the relation over which the invariant is carried: an event that leaves
every assignment, every station and every mover on the side of service it was on. Then the three events that move a mover or a
station over: an entry to ENROLLING, an entry to LOCKED_OUT, a change of assignment. Then each event, by the operations it is made
of.
-/

namespace Sys2Proof.Machine

open Sys2Proof

/-! ### The agreement of stations and movers -/

/-- No mover in service has station a: it is not assigned, or its mover is LOCKED_OUT. -/
def State.OutOfService (s : State) (a : StationNo) : Prop :=
  ∀ x ∈ (s.station a).assign, (s.mover x.mover).state = .lockedOut

/-- Nothing stands for station a, and nothing is due to it. -/
def State.Idle (s : State) (a : StationNo) : Prop :=
  (s.station a).standing = none ∧ (s.station a).urgent = false ∧ (s.linkOf a).due = none ∧ (s.linkOf a).retry = none

/-- `State.StationsFollow` by names, its first two clauses as one. -/
structure State.ServiceAgrees (s : State) : Prop where
  dormant : ∀ a, (s.station a).state = .dormant ↔ s.OutOfService a
  idle : ∀ a, (s.station a).state = .dormant → s.Idle a
  lead : ∀ m, (s.mover m).state ≠ .lockedOut → s.leadCount m = 1
  length : ∀ m, (s.stationsOf m).length ≤ 8

theorem State.stationsFollow_iff {s : State} : s.StationsFollow ↔ s.ServiceAgrees := by
  constructor
  · rintro ⟨hfree, hassigned, hidle, hlead, hlength⟩
    refine ⟨fun a => ?_, hidle, hlead, hlength⟩
    cases hx : (s.station a).assign with
    | none => exact iff_of_true (hfree a hx) (by simp [State.OutOfService, hx])
    | some x => simpa [State.OutOfService, hx] using hassigned a x hx
  · rintro ⟨hdormant, hidle, hlead, hlength⟩
    refine ⟨fun a hx => (hdormant a).2 (by simp [State.OutOfService, hx]), fun a x hx => ?_, hidle, hlead, hlength⟩
    have hx : (s.station a).assign = some x := hx
    simpa [State.OutOfService, hx] using hdormant a

theorem Station.serves_iff {st : Station} {m : MoverNo} : st.serves m = true ↔ ∃ x ∈ st.assign, x.mover = m := by
  unfold Station.serves
  split <;> simp [*]

/-- A station of mover m is out of service exactly while m is. -/
theorem State.outOfService_of_serves {s : State} {a : StationNo} {m : MoverNo} (ha : (s.station a).serves m = true) :
    s.OutOfService a ↔ (s.mover m).state = .lockedOut := by
  obtain ⟨x, hx, rfl⟩ := Station.serves_iff.1 ha
  refine ⟨fun h => h x hx, fun hm y hy => ?_⟩
  rwa [Option.mem_unique hy hx]

/-- The LEAD stations are counted by the assignments alone. -/
theorem State.leadCount_congr {s t : State} (h : ∀ a, (t.station a).assign = (s.station a).assign) (m : MoverNo) :
    t.leadCount m = s.leadCount m := by
  rw [State.leadCount, State.leadCount, State.stationsOf_congr h]
  exact List.countP_congr fun a _ => by rw [Station.role, Station.role, h]

/-! ### Events on one side of service -/

/-- From s to t every assignment is kept, and every station and mover is out of service that was, with nothing new standing or due
for a DORMANT station. -/
structure State.SameService (s t : State) : Prop where
  assign : ∀ a, (t.station a).assign = (s.station a).assign
  dormant : ∀ a, (t.station a).state = .dormant ↔ (s.station a).state = .dormant
  lockedOut : ∀ m, (t.mover m).state = .lockedOut ↔ (s.mover m).state = .lockedOut
  idle : ∀ a, (s.station a).state = .dormant → s.OutOfService a → s.Idle a → t.Idle a

namespace State.SameService

theorem refl (s : State) : s.SameService s := ⟨fun _ => rfl, fun _ => Iff.rfl, fun _ => Iff.rfl, fun _ _ _ h => h⟩

theorem outOfService {s t : State} (h : s.SameService t) (a : StationNo) : t.OutOfService a ↔ s.OutOfService a := by
  simp only [State.OutOfService, h.assign, h.lockedOut]

theorem trans {s t u : State} (h : s.SameService t) (g : t.SameService u) : s.SameService u where
  assign a := (g.assign a).trans (h.assign a)
  dormant a := (g.dormant a).trans (h.dormant a)
  lockedOut m := (g.lockedOut m).trans (h.lockedOut m)
  idle a hd hout hidle := g.idle a ((h.dormant a).2 hd) ((h.outOfService a).2 hout) (h.idle a hd hout hidle)

/-- A second operation after a first: `trans`, the second one first. -/
theorem after {s t u : State} (g : t.SameService u) (h : s.SameService t) : s.SameService u := h.trans g

/-- Operations that change neither movers, nor stations, nor link states. -/
theorem of_records {s t : State} (hm : t.movers = s.movers) (hst : t.stations = s.stations)
    (hl : t.link.links = s.link.links) : s.SameService t := by
  have hstation (a) : t.station a = s.station a := by rw [State.station, State.station, hst]
  have hmover (m) : t.mover m = s.mover m := by rw [State.mover, State.mover, hm]
  have hlink (a) : t.linkOf a = s.linkOf a := by rw [State.linkOf, State.linkOf, hl]
  exact ⟨fun a => by rw [hstation], fun a => by rw [hstation], fun m => by rw [hmover],
    fun a _ _ h => by rwa [State.Idle, hstation, hlink]⟩

theorem serves {s t : State} (h : s.SameService t) (a : StationNo) (m : MoverNo) :
    (t.station a).serves m = (s.station a).serves m := by
  simp [Station.serves, h.assign]

theorem inService {s t : State} (h : s.SameService t) {m : MoverNo} (hm : (s.mover m).state ≠ .lockedOut) :
    (t.mover m).state ≠ .lockedOut := (h.lockedOut m).not.2 hm

/-- An event on one side of service keeps the stations with their movers. -/
theorem keeps {s t : State} (h : s.SameService t) (hs : s.StationsFollow) : t.StationsFollow := by
  rw [State.stationsFollow_iff] at hs ⊢
  refine ⟨fun a => ?_, fun a hd => ?_, fun m hm => ?_, fun m => ?_⟩
  · rw [h.dormant, h.outOfService]
    exact hs.dormant a
  · have hd := (h.dormant a).1 hd
    exact h.idle a hd ((hs.dormant a).1 hd) (hs.idle a hd)
  · rw [State.leadCount_congr h.assign]
    exact hs.lead m ((h.lockedOut m).not.1 hm)
  · rw [State.stationsOf_congr h.assign]
    exact hs.length m

end State.SameService

/-! ### The updates of one record -/

/-- A mover record changed on its side of LOCKED_OUT. -/
theorem State.modMover_sameService (s : State) (m : MoverNo) {f : Mover → Mover}
    (hf : (f (s.mover m)).state = .lockedOut ↔ (s.mover m).state = .lockedOut) : s.SameService (s.modMover m f) where
  assign _ := rfl
  dormant _ := Iff.rfl
  lockedOut n := by
    rw [State.mover_modMover]
    split
    next hn => rw [hn, hf]
    · rfl
  idle _ _ _ h := h

/-- A mover in service that enters another state in service. -/
theorem State.modMover_inService {s : State} {m : MoverNo} (hm : (s.mover m).state ≠ .lockedOut) {f : Mover → Mover}
    {st : MState} (hf : (f (s.mover m)).state = st) (hst : st ≠ .lockedOut) : s.SameService (s.modMover m f) :=
  s.modMover_sameService m (iff_of_false (hf ▸ hst) hm)

/-- A link state changed with nothing new due to a DORMANT station. -/
theorem State.modLink_sameService (s : State) (a : StationNo) {f : Link → Link}
    (hf : (s.station a).state = .dormant → (s.linkOf a).due = none → (s.linkOf a).retry = none →
      (f (s.linkOf a)).due = none ∧ (f (s.linkOf a)).retry = none) : s.SameService (s.modLink a f) where
  assign _ := rfl
  dormant _ := Iff.rfl
  lockedOut _ := Iff.rfl
  idle b hd _ hidle := by
    obtain ⟨hstanding, hurgent, hdue, hretry⟩ := hidle
    rw [State.Idle, State.linkOf_modLink]
    split
    next hb =>
      subst hb
      exact ⟨hstanding, hurgent, hf hd hdue hretry⟩
    · exact ⟨hstanding, hurgent, hdue, hretry⟩

/-- A station record changed on its side of DORMANT. -/
theorem State.modStation_sameService (s : State) (a : StationNo) {f : Station → Station}
    (hassign : (f (s.station a)).assign = (s.station a).assign)
    (hdormant : (f (s.station a)).state = .dormant ↔ (s.station a).state = .dormant)
    (hidle : (s.station a).state = .dormant → s.OutOfService a →
      (s.station a).standing = none → (s.station a).urgent = false →
      (f (s.station a)).standing = none ∧ (f (s.station a)).urgent = false) : s.SameService (s.modStation a f) where
  assign b := by
    rw [State.station_modStation]
    split
    next hb => rw [hb, hassign]
    · rfl
  dormant b := by
    rw [State.station_modStation]
    split
    next hb => rw [hb, hdormant]
    · rfl
  lockedOut _ := Iff.rfl
  idle b hd hout h := by
    obtain ⟨hstanding, hurgent, hdue, hretry⟩ := h
    rw [State.Idle, State.station_modStation]
    split
    next hb =>
      subst hb
      obtain ⟨hstanding', hurgent'⟩ := hidle hd hout hstanding hurgent
      exact ⟨hstanding', hurgent', hdue, hretry⟩
    · exact ⟨hstanding, hurgent, hdue, hretry⟩

/-- The stations of a mover in service changed, with their states and assignments kept. -/
theorem State.modStationsOf_sameService {s : State} {m : MoverNo} (hm : (s.mover m).state ≠ .lockedOut)
    {f : Station → Station} (hassign : ∀ st, (f st).assign = st.assign) (hstate : ∀ st, (f st).state = st.state) :
    s.SameService (s.modStationsOf m f) where
  assign a := by
    rw [State.station_modStationsOf]
    split
    · exact hassign _
    · rfl
  dormant a := by
    rw [State.station_modStationsOf]
    split
    · rw [hstate]
    · rfl
  lockedOut n := by rw [State.mover_modStationsOf]
  idle a _ hout hidle := by
    have ha : ¬ (s.station a).serves m = true := fun ha => hm ((State.outOfService_of_serves ha).1 hout)
    rwa [State.Idle, State.station_modStationsOf, if_neg ha, State.linkOf_modStationsOf]

theorem State.standAll_sameService {s : State} {m : MoverNo} (hm : (s.mover m).state ≠ .lockedOut) (c : Command)
    (u : Bool) : s.SameService (s.standAll m c u) :=
  State.modStationsOf_sameService hm (fun _ => rfl) fun _ => rfl

/-- A mover in service enters another state in service, with a command for its stations. -/
theorem State.enter_sameService {s : State} {m : MoverNo} (hm : (s.mover m).state ≠ .lockedOut) {f : Mover → Mover}
    {st : MState} (hf : (f (s.mover m)).state = st) (hst : st ≠ .lockedOut) (c : Command) (u : Bool) :
    s.SameService ((s.modMover m f).standAll m c u) :=
  .after (State.standAll_sameService (by rwa [State.mover_modMover_self, hf]) c u) (State.modMover_inService hm hf hst)

/-! ### Admission and exits (R42, R74) -/

/-- Whoever waits in the start queue is in service. -/
def State.QueueInService (s : State) : Prop := ∀ e ∈ s.arbiter.queue, (s.mover e.mover).state ≠ .lockedOut

theorem State.ArbiterAgrees.queueInService {s : State} (h : s.ArbiterAgrees) : s.QueueInService := fun e he => by
  rw [(h.books.queued e.mover).1 (List.mem_map_of_mem he)]
  decide

theorem State.SameService.queueInService {s t : State} (h : s.SameService t) (ht : t.arbiter.queue ⊆ s.arbiter.queue)
    (hs : s.QueueInService) : t.QueueInService := fun e he => h.inService (hs e (ht he))

/-- An admission of a mover in service, whatever the Arbiter wrote for it. -/
theorem State.enterStarting_sameService {s : State} {m : MoverNo} (hm : (s.mover m).state ≠ .lockedOut) (a : Arbiter) :
    s.SameService (State.enterStarting { s with arbiter := a } m) :=
  have hentry : s.SameService (State.modMover { s with arbiter := a } m (Mover.toStarting s.now)) :=
    .after (State.modMover_inService (s := { s with arbiter := a }) hm (st := .starting) rfl (by decide))
      (.of_records rfl rfl rfl)
  .after (State.modStationsOf_sameService (hentry.inService hm) (fun _ => rfl) fun _ => rfl) hentry

theorem State.admitQueue_sameService {s : State} (h : s.QueueInService) : s.SameService s.admitQueue := by
  induction hq : s.arbiter.queue generalizing s with
  | nil =>
    rw [State.admitQueue_nil hq]
    exact .refl s
  | cons e rest ih =>
    by_cases hlt : s.arbiter.count < s.arbiter.limit
    · rw [State.admitQueue_head hq hlt]
      have hhead := State.enterStarting_sameService (h e (by simp [hq]))
        { s.arbiter with count := s.arbiter.count + 1, queue := rest }
      exact hhead.trans (ih (hhead.queueInService (by simp [hq]) h) (by simp))
    · rw [State.admitQueue_full (Nat.le_of_not_lt hlt)]
      exact .refl s

theorem State.leaveCounting_sameService {s : State} (h : s.QueueInService) : s.SameService s.leaveCounting :=
  .after (State.admitQueue_sameService h) (.of_records rfl rfl rfl)

theorem State.departed_sameService {s : State} (h : s.QueueInService) (m : MoverNo) (old : MState) :
    s.SameService (s.departed m old) := by
  rcases s.departed_cases m old with ⟨-, ht⟩ | ⟨-, ht⟩ | ⟨-, -, ht⟩ <;> rw [ht]
  · exact .of_records rfl rfl rfl
  · exact State.leaveCounting_sameService h
  · exact .refl s

/-- A mover in service enters another state in service, with a command for its stations, and the Arbiter is told. -/
theorem State.enterDeparted_sameService {s : State} (h : s.QueueInService) {m : MoverNo}
    (hm : (s.mover m).state ≠ .lockedOut) {f : Mover → Mover} {st : MState} (hf : (f (s.mover m)).state = st)
    (hst : st ≠ .lockedOut) (c : Command) (u : Bool) (old : MState) :
    s.SameService (((s.modMover m f).standAll m c u).departed m old) :=
  have henter := State.enter_sameService hm hf hst c u
  henter.trans (State.departed_sameService (henter.queueInService (by simp) h) m old)

/-! ### Entries to the mover states in service -/

theorem MState.ne_lockedOut_of_inService {st : MState} (h : st.inService = true) : st ≠ .lockedOut := by
  rintro rfl
  cases h

theorem State.enterFaulted_sameService {s : State} (h : s.QueueInService) (m : MoverNo) (code : FaultCode) :
    s.SameService (s.enterFaulted m code) := by
  rcases s.enterFaulted_cases m code with ⟨hm, ht⟩ | ⟨-, ht⟩ <;> rw [ht]
  · exact State.enterDeparted_sameService h (MState.ne_lockedOut_of_inService hm) (st := .faulted) rfl (by decide) _ _ _
  · exact .refl s

theorem State.parkWith_sameService {s : State} (h : s.QueueInService) {m : MoverNo}
    (hm : (s.mover m).state ≠ .lockedOut) (reason : StopReason) : s.SameService (s.parkWith m reason) :=
  State.enterDeparted_sameService h hm (st := .parked) rfl (by decide) _ _ _

theorem State.enterBraking_sameService {s : State} {m : MoverNo} (hm : (s.mover m).state ≠ .lockedOut) :
    s.SameService (s.enterBraking m) :=
  State.enter_sameService hm rfl hm _ _

theorem State.enterStopping_sameService {s : State} {m : MoverNo} (hm : (s.mover m).state ≠ .lockedOut)
    (reason : StopReason) : s.SameService (s.enterStopping m reason) := by
  have henter : s.SameService ((s.modMover m (Mover.toStopping s.now reason)).standAll m driveZero false) :=
    State.enter_sameService hm (st := .stopping) rfl (by decide) _ _
  rcases s.enterStopping_cases m reason with ⟨-, ht⟩ | ⟨-, ht⟩ <;> rw [ht]
  · exact henter.trans (State.enterBraking_sameService (henter.inService hm))
  · exact henter

theorem State.endStop_sameService {s : State} (h : s.QueueInService) {m : MoverNo}
    (hm : (s.mover m).state ≠ .lockedOut) : s.SameService (s.endStop m) := by
  have henter : s.SameService ((s.modMover m fun x =>
      if x.stopReason = some .authority then x.toHeld else x.toParked none).standAll m .hold false) :=
    State.enter_sameService hm (st := if (s.mover m).stopReason = some .authority then .held else .parked)
      (by split <;> rfl) (by split <;> decide) _ _
  exact henter.trans (State.leaveCounting_sameService (henter.queueInService (by simp) h))

theorem State.stopMover_sameService {s : State} (h : s.QueueInService) (m : MoverNo) : s.SameService (s.stopMover m) := by
  unfold State.stopMover
  split
  next hm => exact State.enterStopping_sameService (by rw [hm]; nofun) _
  next hm => exact State.enterStopping_sameService (by rw [hm]; nofun) _
  next hm => exact State.parkWith_sameService h (by rw [hm]; nofun) _
  next hm => exact State.parkWith_sameService h (by rw [hm]; nofun) _
  · exact .refl s

theorem State.stormReact_sameService {s : State} (h : s.QueueInService) (m : MoverNo) :
    s.SameService (s.stormReact m) := by
  unfold State.stormReact
  split
  · split
    next hm => exact State.enterStopping_sameService (by rw [hm]; nofun) _
    next hm => exact State.enterStopping_sameService (by rw [hm]; nofun) _
    next hm => exact State.parkWith_sameService h (by rw [hm]; nofun) _
    · exact .refl s
  · exact .refl s

theorem State.requestAdmission_sameService {s : State} {m : MoverNo} (hm : (s.mover m).state ≠ .lockedOut) :
    s.SameService (s.requestAdmission m) := by
  rcases s.requestAdmission_cases m with ⟨-, -, ht⟩ | ⟨-, ht⟩ <;> rw [ht]
  · exact State.enterStarting_sameService hm _
  · have hjoined : s.SameService
        { s with arbiter := { s.arbiter with queue := s.arbiter.queue ++ [{ mover := m, since := s.now }] } } :=
      .of_records rfl rfl rfl
    exact hjoined.trans (State.enter_sameService (hjoined.inService hm) (st := .queued) rfl (by decide) _ _)

/-! ### The proving sweep -/

theorem State.evaluate_sameService (s : State) (k : TrackNo) (t : Track) (p : Nat) (g : Seg) :
    s.SameService (s.evaluate k t p g) := by
  unfold State.evaluate
  dsimp only
  split <;> exact .of_records rfl rfl rfl

theorem State.completeStep_sameService (s : State) : s.SameService s.completeStep := .of_records rfl rfl rfl

theorem State.noticeEnded_sameService (s : State) (a : StationNo) : s.SameService (s.noticeEnded a) := by
  unfold State.noticeEnded
  split
  · split
    · unfold State.completePending
      split
      · split
        · split
          · exact (s.evaluate_sameService _ _ _ _).trans (State.completeStep_sameService _)
          · exact s.completeStep_sameService
        · exact s.completeStep_sameService
      · exact s.completeStep_sameService
    · exact .refl s
  · exact .refl s

theorem State.giveNotices_sameService (s : State) (dropped : List StationNo) : s.SameService (s.giveNotices dropped) := by
  unfold State.giveNotices
  induction dropped generalizing s with
  | nil => exact .refl s
  | cons a rest ih => exact (s.noticeEnded_sameService a).trans (ih _)

theorem State.beginStep_sameService (s : State) : s.SameService s.beginStep := by
  unfold State.beginStep
  split
  · exact s.completeStep_sameService
  · split
    · exact s.completeStep_sameService
    · split
      · exact (s.evaluate_sameService _ _ _ _).trans (State.completeStep_sameService _)
      · exact .after (State.modLink_sameService _ _ fun _ hdue hretry => ⟨hdue, hretry⟩) (.of_records rfl rfl rfl)

theorem State.provingExpiry_sameService (s : State) : s.SameService s.provingExpiry := by
  unfold State.provingExpiry
  split
  · dsimp only
    split
    · exact .of_records rfl rfl rfl
    · exact .after (State.beginStep_sameService _) (.of_records rfl rfl rfl)
  · exact .refl s

/-! ### Reports in service (R130) -/

section

variable {s : State} {m : MoverNo}

theorem State.fileReference_sameService (s : State) (m : MoverNo) (offset : Int) (r : Report) :
    s.SameService (s.fileReference m offset r) := by
  unfold State.fileReference
  split
  · exact s.modMover_sameService m Iff.rfl
  · exact .refl s

theorem State.joinProgress_sameService (s : State) (m : MoverNo) (a : StationNo) : s.SameService (s.joinProgress m a) :=
  s.modMover_sameService m Iff.rfl

theorem State.lawOutput_sameService (hm : (s.mover m).state ≠ .lockedOut) (c : MoverConfig) (speed : Nat) :
    s.SameService (s.lawOutput m c speed) :=
  .after (State.modStationsOf_sameService (by rwa [State.mover_modMover_self]) (fun _ => rfl) fun _ => rfl)
    (s.modMover_sameService m Iff.rfl)

theorem State.enterMoving_sameService (h : s.QueueInService) (hm : (s.mover m).state ≠ .lockedOut) :
    s.SameService (s.enterMoving m) := by
  unfold State.enterMoving
  split
  · exact .refl s
  next i _ =>
    split
    · exact State.enterFaulted_sameService h m _
    · have hmoving : s.SameService (s.modMover m (Mover.toMoving s.now i.config.permit)) :=
        State.modMover_inService hm (st := .moving) rfl (by decide)
      exact .after (State.lawOutput_sameService (hmoving.inService hm) _ _) hmoving

theorem State.reportStarting_sameService (h : s.QueueInService) (hm : (s.mover m).state ≠ .lockedOut) (a : StationNo)
    (r : Report) : s.SameService (s.reportStarting m a r) := by
  have hjoin := s.joinProgress_sameService m a
  unfold State.reportStarting
  split
  · dsimp only
    split
    · exact hjoin.trans (State.enterMoving_sameService (hjoin.queueInService (List.Subset.refl _) h) (hjoin.inService hm))
    · exact hjoin
  · exact .refl s

theorem State.leadMoving_sameService (h : s.QueueInService) (hm : (s.mover m).state ≠ .lockedOut) (r : Report) :
    s.SameService (s.leadMoving m r) := by
  unfold State.leadMoving
  split
  · exact .refl s
  next i _ =>
    split
    · exact State.enterFaulted_sameService h m _
    next speed _ _ _ _ =>
      have hlaw := State.lawOutput_sameService hm i.config speed
      dsimp only
      split
      · exact hlaw.trans (State.enterStopping_sameService (hlaw.inService hm) _)
      · exact .after (State.modMover_sameService _ m Iff.rfl)
          (.after (State.modMover_sameService _ m (by split <;> rfl)) hlaw)

theorem State.stopProgress_sameService (h : s.QueueInService) (hm : (s.mover m).state ≠ .lockedOut) (a : StationNo)
    (role : Role) (r : Report) : s.SameService (s.stopProgress m a role r) := by
  have hjoin := s.joinProgress_sameService m a
  unfold State.stopProgress
  split
  · split
    · dsimp only
      split
      · exact hjoin.trans (State.endStop_sameService (hjoin.queueInService (List.Subset.refl _) h) (hjoin.inService hm))
      · exact hjoin
    · exact .refl s
  · split
    · exact State.enterBraking_sameService hm
    · exact .refl s

theorem State.reportByState_sameService (h : s.QueueInService) (a : StationNo) (role : Role) (r : Report) :
    s.SameService (s.reportByState m a role r) := by
  unfold State.reportByState
  split
  next hm => exact State.reportStarting_sameService h (by rw [hm]; nofun) a r
  next hm =>
    split
    · exact State.leadMoving_sameService h (by rw [hm]; nofun) r
    · exact .refl s
  next hm =>
    unfold State.reportStopping
    split
    · exact State.enterFaulted_sameService h m _
    · exact State.stopProgress_sameService h (by rw [hm]; nofun) a role r
  next hm =>
    unfold State.reportHeld
    split
    · exact State.requestAdmission_sameService (by rw [hm]; nofun)
    · exact .refl s
  · exact .refl s

/-- The trim and the trimmed speed of a station of a mover in service. -/
theorem State.writeTrim_sameService (hm : (s.mover m).state ≠ .lockedOut) {a : StationNo}
    (ha : (s.station a).serves m = true) (c : MoverConfig) (trim : Int) : s.SameService (s.writeTrim m a c trim) := by
  unfold State.writeTrim
  refine s.modStation_sameService a ?_ ?_ fun _ hout =>
    absurd ((State.outOfService_of_serves ha).1 hout) hm
  · dsimp only
    split <;> rfl
  · dsimp only
    split <;> rfl

theorem State.skewTrim_sameService (h : s.QueueInService) (hm : (s.mover m).state ≠ .lockedOut) {a : StationNo}
    (ha : (s.station a).serves m = true) (offset : Int) (r : Report) : s.SameService (s.skewTrim m a offset r) := by
  unfold State.skewTrim
  split
  · split
    · exact State.enterFaulted_sameService h m _
    · exact State.writeTrim_sameService hm ha _ _
  · exact .refl s

theorem State.reportInService_sameService (h : s.ArbiterAgrees) (hm : (s.mover m).state ≠ .lockedOut) {a : StationNo}
    (ha : (s.station a).serves m = true) (x : Assignment) (r : Report) : s.SameService (s.reportInService m a x r) := by
  have hfile : s.SameService (if x.role = .lead then s.fileReference m x.offset r else s) := by
    split
    · exact s.fileReference_sameService m _ r
    · exact .refl s
  have hfiled : (if x.role = .lead then s.fileReference m x.offset r else s).ArbiterAgrees := by
    split
    · exact (s.fileReference_sameStates m _ r).keeps h
    · exact h
  unfold State.reportInService
  generalize (if x.role = .lead then s.fileReference m x.offset r else s) = s1 at hfile hfiled ⊢
  dsimp only
  have hprogress := hfile.trans (State.reportByState_sameService (m := m) hfiled.queueInService a x.role r)
  split
  · exact hfile
  · split
    · exact hfile.trans (State.enterFaulted_sameService hfiled.queueInService m _)
    · split
      · exact hprogress.trans (State.skewTrim_sameService (hfiled.reportByState a x.role r).queueInService
          (hprogress.inService hm) (by rwa [hprogress.serves]) _ r)
      · exact hprogress

end

/-! ### Into and out of service (R123, R146) -/

@[simp] theorem State.station_modServiceOf (s : State) (m : MoverNo) (f : Station → Station) (g : Link → Link)
    (a : StationNo) :
    (s.modServiceOf m f g).station a = if (s.station a).serves m = true then f (s.station a) else s.station a :=
  tget_tmap _ _ a

@[simp] theorem State.linkOf_modServiceOf (s : State) (m : MoverNo) (f : Station → Station) (g : Link → Link)
    (a : StationNo) :
    (s.modServiceOf m f g).linkOf a = if (s.station a).serves m = true then g (s.linkOf a) else s.linkOf a :=
  tget_tmap _ _ a

/-- Mover m enters state `st`, and with it every station of m comes to the side of service that m is on. -/
theorem State.StationsFollow.modServiceOf {s : State} (h : s.StationsFollow) {m : MoverNo} {u : Mover → Mover}
    {st : MState} {f : Station → Station} {g : Link → Link} (hu : (u (s.mover m)).state = st)
    (hassign : ∀ x, (f x).assign = x.assign) (hdormant : ∀ x, (f x).state = .dormant ↔ st = .lockedOut)
    (hidle : st = .lockedOut →
      ∀ x l, (f x).standing = none ∧ (f x).urgent = false ∧ (g l).due = none ∧ (g l).retry = none)
    (hlead : st ≠ .lockedOut → s.leadCount m = 1) : ((s.modMover m u).modServiceOf m f g).StationsFollow := by
  rw [State.stationsFollow_iff] at h ⊢
  generalize ht : (s.modMover m u).modServiceOf m f g = t
  have hmover (n) : (t.mover n).state = if n = m then st else (s.mover n).state := by
    rw [← ht, State.mover_modServiceOf, State.mover_modMover]
    split
    · exact hu
    · rfl
  have hstation (a) : t.station a = if (s.station a).serves m = true then f (s.station a) else s.station a := by
    rw [← ht, State.station_modServiceOf, State.station_modMover]
  have hlink (a) : t.linkOf a = if (s.station a).serves m = true then g (s.linkOf a) else s.linkOf a := by
    rw [← ht, State.linkOf_modServiceOf, State.station_modMover, State.linkOf_modMover]
  have hkept (a) : (t.station a).assign = (s.station a).assign := by
    rw [hstation]
    split
    · exact hassign _
    · rfl
  have hserves (a n) : (t.station a).serves n = (s.station a).serves n := by simp [Station.serves, hkept]
  refine ⟨fun a => ?_, fun a hd => ?_, fun n hn => ?_, fun n => ?_⟩
  · by_cases ha : (s.station a).serves m = true
    · rw [State.outOfService_of_serves ((hserves a m).trans ha), hstation, if_pos ha, hmover, if_pos rfl]
      exact hdormant _
    · have hother (x) (hx : x ∈ (s.station a).assign) : x.mover ≠ m := fun hm => ha (Station.serves_iff.2 ⟨x, hx, hm⟩)
      rw [hstation, if_neg ha, h.dormant, State.OutOfService, State.OutOfService, hkept]
      exact forall₂_congr fun x hx => by rw [hmover, if_neg (hother x hx)]
  · rw [hstation] at hd
    rw [State.Idle, hstation, hlink]
    split
    next ha =>
      rw [if_pos ha] at hd
      exact hidle ((hdormant _).1 hd) _ _
    next ha =>
      rw [if_neg ha] at hd
      exact h.idle a hd
  · rw [State.leadCount_congr hkept]
    by_cases hnm : n = m
    · subst hnm
      rw [hmover, if_pos rfl] at hn
      exact hlead hn
    · rw [hmover, if_neg hnm] at hn
      exact h.lead n hn
  · rw [State.stationsOf_congr hkept]
    exact h.length n

/-- Entry to ENROLLING, which R45 grants to a mover with one LEAD. -/
theorem State.StationsFollow.enterEnrolling {s : State} (h : s.StationsFollow) {m : MoverNo}
    (hlead : s.leadCount m = 1) : (s.enterEnrolling m).StationsFollow :=
  h.modServiceOf (st := .enrolling) rfl (fun _ => rfl) (fun _ => iff_of_false nofun nofun) nofun fun _ => hlead

theorem State.StationsFollow.enterLockedOut {s : State} (h : s.StationsFollow) (m : MoverNo)
    (result : Option EnrolResult) : (s.enterLockedOut m result).StationsFollow :=
  have hmarked : (s.clearMark m).StationsFollow := State.SameService.keeps (.of_records rfl rfl rfl) h
  hmarked.modServiceOf (st := .lockedOut) rfl (fun _ => rfl) (fun _ => iff_of_true rfl rfl)
    (fun _ _ _ => ⟨rfl, rfl, rfl, rfl⟩) fun hne => absurd rfl hne

theorem State.blockRun_sameService (s : State) (m : MoverNo) : s.SameService (s.blockRun m) := by
  unfold State.blockRun
  split <;> exact .of_records rfl rfl rfl

theorem State.StationsFollow.lockOut {s : State} (h : s.StationsFollow) (m : MoverNo) (result : Option EnrolResult) :
    (s.lockOut m result).StationsFollow :=
  (State.giveNotices_sameService _ _).keeps (h.enterLockedOut m result)

theorem State.StationsFollow.lockRun {s : State} (h : s.StationsFollow) (m : MoverNo) : (s.lockRun m).StationsFollow :=
  (State.giveNotices_sameService _ _).keeps (((s.blockRun_sameService m).keeps h).enterLockedOut m none)

/-! ### A change of assignment (R120, R121) -/

theorem State.station_changeAssignment (s : State) (a b : StationNo) (x : Option Assignment) :
    (s.changeAssignment a x).station b = if b = a then (s.station a).reassign x else s.station b :=
  s.station_modStation a b _

theorem State.linkOf_changeAssignment (s : State) (a b : StationNo) (x : Option Assignment) :
    (s.changeAssignment a x).linkOf b = if b = a then (s.linkOf a).reassigned else s.linkOf b :=
  State.linkOf_modLink _ a b _

theorem State.serves_changeAssignment_self {s : State} {a : StationNo} {x : Option Assignment} {m : MoverNo} :
    ((s.changeAssignment a x).station a).serves m = true ↔ ∃ y ∈ x, y.mover = m := by
  rw [State.station_changeAssignment, if_pos rfl, Station.serves_iff]
  rfl

theorem State.mem_stationsOf {s : State} {a : StationNo} {m : MoverNo} :
    a ∈ s.stationsOf m ↔ (s.station a).serves m = true := by
  simp [State.stationsOf]

theorem State.stationsOf_nodup (s : State) (m : MoverNo) : (s.stationsOf m).Nodup := (List.nodup_finRange 32).filter _

theorem State.stationsOf_changeAssignment_subset (s : State) (a : StationNo) (x : Option Assignment) (m : MoverNo) :
    (s.changeAssignment a x).stationsOf m ⊆ a :: s.stationsOf m := fun b hb => by
  rw [State.mem_stationsOf, State.station_changeAssignment] at hb
  split at hb
  next hba => exact hba ▸ List.mem_cons_self
  · exact List.mem_cons_of_mem _ (State.mem_stationsOf.2 hb)

/-- A mover has at most eight stations after a change that gives it one it had, or for which it had room. -/
theorem State.stationsOf_changeAssignment_length {s : State} {a : StationNo} {x : Option Assignment} {m : MoverNo}
    (h : (s.stationsOf m).length ≤ 8)
    (hroom : (∃ y ∈ x, y.mover = m) → (s.station a).serves m = true ∨ (s.stationsOf m).length < 8) :
    ((s.changeAssignment a x).stationsOf m).length ≤ 8 := by
  have hnodup := (s.changeAssignment a x).stationsOf_nodup m
  have hsub := s.stationsOf_changeAssignment_subset a x m
  by_cases hlt : (s.stationsOf m).length < 8
  · exact (hnodup.subperm hsub).length_le.trans hlt
  · refine (hnodup.subperm fun b hb => ?_).length_le.trans h
    refine (List.mem_cons.1 (hsub hb)).elim (fun hba => ?_) id
    rw [hba, State.mem_stationsOf, State.serves_changeAssignment_self] at hb
    exact hba ▸ State.mem_stationsOf.2 ((hroom hb).resolve_right hlt)

/-- The LEAD stations of a mover that neither loses nor gains the station. -/
theorem State.leadCount_changeAssignment {s : State} {a : StationNo} {x : Option Assignment} {m : MoverNo}
    (hold : (s.station a).serves m ≠ true) (hnew : ¬ ∃ y ∈ x, y.mover = m) :
    (s.changeAssignment a x).leadCount m = s.leadCount m := by
  rw [State.leadCount, State.leadCount, State.stationsOf, State.stationsOf, List.countP_filter, List.countP_filter]
  refine List.countP_congr fun b _ => ?_
  by_cases hb : b = a
  · subst hb
    simp [hold, mt State.serves_changeAssignment_self.1 hnew]
  · rw [State.station_changeAssignment, if_neg hb]

/-- A station out of service takes an assignment to a mover out of service, which has had it or has room for it. -/
theorem State.StationsFollow.changeAssignment {s : State} (h : s.StationsFollow) {a : StationNo}
    {x : Option Assignment} (ha : s.OutOfService a) (hx : ∀ y ∈ x, (s.mover y.mover).state = .lockedOut)
    (hroom : ∀ y ∈ x, (s.station a).serves y.mover = true ∨ (s.stationsOf y.mover).length < 8) :
    (s.changeAssignment a x).StationsFollow := by
  rw [State.stationsFollow_iff] at h ⊢
  refine ⟨fun b => ?_, fun b hd => ?_, fun m hm => ?_, fun m => ?_⟩
  · by_cases hb : b = a
    · rw [State.OutOfService, State.station_changeAssignment, if_pos hb]
      exact iff_of_true rfl hx
    · rw [State.OutOfService, State.station_changeAssignment, if_neg hb]
      exact h.dormant b
  · rw [State.Idle, State.station_changeAssignment, State.linkOf_changeAssignment]
    by_cases hb : b = a
    · rw [if_pos hb, if_pos hb]
      exact ⟨rfl, rfl, rfl, rfl⟩
    · rw [State.station_changeAssignment, if_neg hb] at hd
      rw [if_neg hb, if_neg hb]
      exact h.idle b hd
  · have hold : (s.station a).serves m ≠ true := fun hserved => hm ((State.outOfService_of_serves hserved).1 ha)
    have hnew : ¬ ∃ y ∈ x, y.mover = m := fun ⟨y, hy, hym⟩ => hm (hym ▸ hx y hy)
    rw [State.leadCount_changeAssignment hold hnew]
    exact h.lead m hm
  · exact State.stationsOf_changeAssignment_length (h.length m) fun ⟨y, hy, hym⟩ => hym ▸ hroom y hy

/-! ### Requests that leave every station in its place -/

theorem State.reply_sameService (s : State) (c : Byte) (st : Status) (items : List Item) :
    s.SameService (s.reply c st items) := .of_records rfl rfl rfl

theorem State.updateAlerts_sameService (s : State) : s.SameService s.updateAlerts := .of_records rfl rfl rfl

theorem State.setRun_sameService (s : State) (m : MoverNo) (r : Option Run) : s.SameService (s.setRun m r) :=
  .of_records rfl rfl rfl

theorem State.modSegAt_sameService (s : State) (index : Nat) (f : Seg → Seg) : s.SameService (s.modSegAt index f) := by
  unfold State.modSegAt
  split <;> exact .of_records rfl rfl rfl

theorem State.allocateTrack_sameService (s : State) (k : TrackNo) (start : Nat) (lengths : List Nat) :
    s.SameService (s.allocateTrack k start lengths) := by
  unfold State.allocateTrack
  dsimp only
  split <;> exact .of_records rfl rfl rfl

theorem State.defineTrack_sameService (s : State) (track start count : Nat) (lengths : List Nat) :
    s.SameService (s.defineTrack track start count lengths) := by
  unfold State.defineTrack
  split
  · exact .of_records rfl rfl rfl
  · split
    · exact .of_records rfl rfl rfl
    · exact .of_records rfl rfl rfl
    · split
      · exact .of_records rfl rfl rfl
      · exact s.allocateTrack_sameService _ _ _

theorem State.removeTrack_sameService (s : State) (track : Nat) : s.SameService (s.removeTrack track) := by
  unfold State.removeTrack
  repeat' split
  all_goals exact .of_records rfl rfl rfl

theorem State.queryTrack_sameService (s : State) (track : Nat) : s.SameService (s.queryTrack track) := by
  unfold State.queryTrack
  split <;> exact .of_records rfl rfl rfl

theorem State.blockSegment_sameService (s : State) (index : Nat) : s.SameService (s.blockSegment index) := by
  unfold State.blockSegment
  split
  · exact .of_records rfl rfl rfl
  · split
    · exact .of_records rfl rfl rfl
    · split
      · exact .of_records rfl rfl rfl
      · exact .after (State.reply_sameService _ _ _ _) (s.modSegAt_sameService index _)

theorem State.unblockSegment_sameService (s : State) (index : Nat) : s.SameService (s.unblockSegment index) := by
  unfold State.unblockSegment
  split
  · exact .of_records rfl rfl rfl
  · split
    · exact .of_records rfl rfl rfl
    · exact .after (State.reply_sameService _ _ _ _) (s.modSegAt_sameService index _)

theorem State.querySegment_sameService (s : State) (index : Nat) : s.SameService (s.querySegment index) := by
  unfold State.querySegment
  split <;> exact .of_records rfl rfl rfl

theorem State.reserve_sameService (s : State) (mover endCode count : Nat) :
    s.SameService (s.reserve mover endCode count) := by
  unfold State.reserve
  repeat' split
  all_goals exact .of_records rfl rfl rfl

theorem State.release_sameService (s : State) (mover endCode count : Nat) :
    s.SameService (s.release mover endCode count) := by
  unfold State.release
  repeat' split
  all_goals exact .of_records rfl rfl rfl

theorem State.configureMover_sameService (s : State) (mover : Nat) (raw : RawConfig) :
    s.SameService (s.configureMover mover raw) := by
  unfold State.configureMover
  split
  · exact s.reply_sameService _ _ _
  · split
    · exact s.reply_sameService _ _ _
    · split
      · exact .after (State.reply_sameService _ _ _ _) (s.modMover_sameService _ Iff.rfl)
      · exact s.reply_sameService _ _ _
      · exact s.reply_sameService _ _ _

theorem State.queryMover_sameService (s : State) (mover : Nat) : s.SameService (s.queryMover mover) := by
  unfold State.queryMover
  split <;> exact .of_records rfl rfl rfl

theorem State.queryStation_sameService (s : State) (address view : Nat) :
    s.SameService (s.queryStation address view) := by
  unfold State.queryStation
  split <;> exact .of_records rfl rfl rfl

theorem State.setWind_sameService (s : State) (w : WindSettings) : s.SameService (s.setWind w) := by
  unfold State.setWind
  split <;> exact .of_records rfl rfl rfl

/-! ### Events that leave every station in its place -/

theorem State.takeConsistent_sameService (s : State) (index : Nat) : s.SameService (s.takeConsistent index) := by
  unfold State.takeConsistent
  split
  · dsimp only
    split
    · exact .after (State.updateAlerts_sameService _)
        (.after (State.modSegAt_sameService _ _ _) (.of_records rfl rfl rfl))
    · exact .of_records rfl rfl rfl
  · exact .refl s

theorem State.takeInconsistent_sameService (s : State) (index : Nat) : s.SameService (s.takeInconsistent index) := by
  unfold State.takeInconsistent
  split
  · dsimp only
    split
    · exact .after (State.updateAlerts_sameService _)
        (.after (State.modSegAt_sameService _ _ _) (.of_records rfl rfl rfl))
    · exact .of_records rfl rfl rfl
  · exact .refl s

theorem State.takeTrailing_sameService (s : State) (index : Nat) : s.SameService (s.takeTrailing index) := by
  unfold State.takeTrailing
  split
  · dsimp only
    split
    · exact .after (State.setRun_sameService _ _ _)
        (.after (State.modSegAt_sameService _ _ _) (.of_records rfl rfl rfl))
    · exact .of_records rfl rfl rfl
  · exact .refl s

/-- A transaction begins with no station's standing command changed, and with no urgent mark set (R149). -/
theorem State.startTransaction_sameService (s : State) (a : StationNo) (c : Command) (seq : Bool) :
    s.SameService (s.startTransaction a c seq) := by
  have hsent : s.SameService (s.modStation a (Station.sent c s.now)) :=
    s.modStation_sameService a rfl Iff.rfl fun _ _ hstanding hurgent =>
      ⟨hstanding, show (if c = .hold then false else (s.station a).urgent) = false by rw [hurgent, ite_self]⟩
  have hcarried : s.SameService ((s.modStation a (Station.sent c s.now)).modLink a fun l => { l with priority := false }) :=
    hsent.trans (State.modLink_sameService _ a fun _ hdue hretry => ⟨hdue, hretry⟩)
  exact hcarried.trans (.of_records rfl rfl rfl)

theorem State.transactionStart_sameService (s : State) : s.SameService s.transactionStart := by
  unfold State.transactionStart
  split
  · split
    · exact .refl s
    · split
      · exact .refl s
      · exact s.startTransaction_sameService _ _ _
  · exact .refl s

theorem State.commandFrameEnd_sameService (s : State) : s.SameService s.commandFrameEnd := by
  unfold State.commandFrameEnd
  split <;> exact .of_records rfl rfl rfl

theorem State.broadcastStart_sameService (s : State) : s.SameService s.broadcastStart := by
  unfold State.broadcastStart
  split <;> exact .of_records rfl rfl rfl

theorem State.broadcastEnd_sameService (s : State) : s.SameService s.broadcastEnd := by
  unfold State.broadcastEnd
  split <;> exact .of_records rfl rfl rfl

theorem State.takeOpeningFieldLink_sameService (s : State) : s.SameService s.takeOpeningFieldLink := by
  unfold State.takeOpeningFieldLink
  split <;> exact .of_records rfl rfl rfl

theorem State.rainOn_sameService (s : State) : s.SameService s.rainOn := by
  unfold State.rainOn
  split <;> exact .of_records rfl rfl rfl

theorem State.rainOff_sameService (s : State) : s.SameService s.rainOff := by
  unfold State.rainOff
  split <;> exact .of_records rfl rfl rfl

theorem State.chainOpens_sameService (s : State) : s.SameService s.chainOpens := by
  unfold State.chainOpens
  split <;> exact .of_records rfl rfl rfl

theorem State.chainCloses_sameService (s : State) : s.SameService s.chainCloses := by
  unfold State.chainCloses
  split <;> exact .of_records rfl rfl rfl

theorem State.resetReleased_sameService (s : State) : s.SameService s.resetReleased := by
  unfold State.resetReleased
  split <;> exact .of_records rfl rfl rfl

theorem State.tick_sameService (s : State) : s.SameService s.tick := by
  unfold State.tick
  split <;> exact .of_records rfl rfl rfl

/-! ### Filing (R126, R127, R129) -/

@[simp] theorem Station.file_assign (r : Report) (toSample : Bool) (st : Station) :
    (st.file r toSample).assign = st.assign := by
  cases toSample <;> rfl

@[simp] theorem Station.file_state (r : Report) (toSample : Bool) (st : Station) :
    (st.file r toSample).state = if st.recovers r then .active else st.state := by
  cases toSample <;> rfl

/-- Only a LOST or BUSY_HALTED station recovers (R126). -/
theorem Station.recovers_dormant {st : Station} (h : st.state = .dormant) (r : Report) : st.recovers r = false := by
  simp [Station.recovers, h, StState.failed]

theorem Station.file_state_dormant (r : Report) (toSample : Bool) (st : Station) :
    (st.file r toSample).state = .dormant ↔ st.state = .dormant := by
  rw [Station.file_state]
  by_cases hd : st.state = .dormant
  · simp [Station.recovers_dormant hd]
  · split <;> simp [hd]

/-- A filed report changes nothing that stands for a DORMANT station. -/
theorem State.file_sameService (s : State) (a : StationNo) (ident : Bool) (r : Report) :
    s.SameService (s.modStation a
      (Station.file r (ident && decide ((s.station a).state = .active) && s.enrollingStation a))) := by
  refine s.modStation_sameService a (Station.file_assign ..) (Station.file_state_dormant ..)
    fun hd _ hstanding hurgent => ?_
  simp [Station.file, hd, hstanding, hurgent]

/-! ### Enrol (R46 to R48) -/

namespace State.StationsFollow

variable {s : State}

theorem completeEnrol (h : s.StationsFollow) {m : MoverNo} (hm : (s.mover m).state ≠ .lockedOut) :
    (s.completeEnrol m).StationsFollow := by
  have htake : s.SameService (s.takeFootprint m).2 := by
    unfold State.takeFootprint
    split
    · split <;> exact .of_records rfl rfl rfl
    · exact .refl s
  unfold State.completeEnrol
  split
  · exact h.lockOut m _
  · split
    · exact h.lockOut m _
    · split
      next s1 heq =>
        rw [heq] at htake
        exact (htake.trans (State.enter_sameService (htake.inService hm) (st := .parked) rfl (by decide) _ _)).keeps h
      · exact h.lockOut m _

theorem reportEnrolling (h : s.StationsFollow) {m : MoverNo} (hm : (s.mover m).state ≠ .lockedOut) (a : StationNo)
    (x : Assignment) (ident : Bool) (r : Report) : (s.reportEnrolling m a x ident r).StationsFollow := by
  have hfile : s.SameService (if x.role = .lead then s.fileReference m x.offset r else s) := by
    split
    · exact s.fileReference_sameService m _ r
    · exact .refl s
  unfold State.reportEnrolling
  split
  · exact h.lockOut m _
  · split
    · exact h.lockOut m _
    · generalize (if x.role = .lead then s.fileReference m x.offset r else s) = s1 at hfile ⊢
      have hjoin := hfile.trans (s1.joinProgress_sameService m a)
      dsimp only
      split
      · split
        · exact (hjoin.keeps h).completeEnrol (hjoin.inService hm)
        · exact hjoin.keeps h
      · exact hfile.keeps h

/-! ### The endings of a transaction (R140 to R147) -/

theorem passReport (h : s.StationsFollow) (ha : s.ArbiterAgrees) (a : StationNo) (ident : Bool) (r : Report) :
    (s.passReport a ident r).StationsFollow := by
  unfold State.passReport
  split
  · exact h
  next x hx =>
    have hserves : (s.station a).serves x.mover = true := Station.serves_iff.2 ⟨x, hx, rfl⟩
    split
    · exact h
    next hm => exact h.reportEnrolling (by rw [hm]; decide) a x ident r
    next hm _ => exact (State.reportInService_sameService ha hm hserves x r).keeps h

theorem fileReport (h : s.StationsFollow) (ha : s.ArbiterAgrees) (a : StationNo) (ident : Bool) (r : Report) :
    (s.fileReport a ident r).StationsFollow :=
  ((s.file_sameService a ident r).keeps h).passReport ((s.modStation_sameStates a _).keeps ha) a ident r

theorem stationFailure (h : s.StationsFollow) (ha : s.ArbiterAgrees) (m : MoverNo) (code : FaultCode) :
    (s.stationFailure m code).StationsFollow := by
  unfold State.stationFailure
  split
  · exact h.lockOut m _
  · exact (State.enterFaulted_sameService ha.queueInService m code).keeps h

theorem tellFailure (h : s.StationsFollow) (ha : s.ArbiterAgrees) (a : StationNo) (code : FaultCode) :
    (s.tellFailure a code).StationsFollow := by
  unfold State.tellFailure
  split
  · exact h.stationFailure ha _ code
  · exact h

/-- A station that is not DORMANT is marked as failed, and its mover told. -/
theorem failStation (h : s.StationsFollow) (ha : s.ArbiterAgrees) {a : StationNo} (hd : (s.station a).state ≠ .dormant)
    {st : StState} (hst : st ≠ .dormant) (code : FaultCode) :
    ((s.modStation a fun x => { x with state := st }).tellFailure a code).StationsFollow := by
  have hfailed : s.SameService (s.modStation a fun x => { x with state := st }) :=
    s.modStation_sameService a rfl (iff_of_false hst hd) fun hdormant => absurd hdormant hd
  exact (hfailed.keeps h).tellFailure ((s.modStation_sameStates a _).keeps ha) a code

theorem strikeOut (h : s.StationsFollow) (ha : s.ArbiterAgrees) (a : StationNo) : (s.strikeOut a).StationsFollow := by
  unfold State.strikeOut
  split
  next hst => exact h.failStation ha (by rw [hst]; decide) (by decide) _
  next hst => exact h.failStation ha (by rw [hst]; decide) (by decide) _
  · exact h

theorem busyHalt (h : s.StationsFollow) (ha : s.ArbiterAgrees) (a : StationNo) : (s.busyHalt a).StationsFollow := by
  unfold State.busyHalt
  split
  next hst => exact h.failStation ha (by rw [hst]; decide) (by decide) _
  · exact h

/-- Nothing is due to a DORMANT station after an ending (R145). -/
theorem setDue (h : s.StationsFollow) (a : StationNo) : (s.setDue a).StationsFollow :=
  State.SameService.keeps (s.modLink_sameService a fun hd _ hretry => ⟨by rw [hd], hretry⟩) h

/-- A change of counts, with the pending retry kept or dropped. -/
theorem modLink (h : s.StationsFollow) (a : StationNo) (f : Link → Link) (hdue : ∀ l, (f l).due = l.due)
    (hretry : ∀ l, l.retry = none → (f l).retry = none) : (s.modLink a f).StationsFollow :=
  State.SameService.keeps (s.modLink_sameService a fun _ hd hr => ⟨(hdue _).trans hd, hretry _ hr⟩) h

theorem failedAttempt (h : s.StationsFollow) (ha : s.ArbiterAgrees) {t : Transaction}
    (hd : (s.station t.station).state ≠ .dormant) : (s.failedAttempt t).StationsFollow := by
  have hlast := h.modLink t.station (fun l => { l with attempts := 3, retry := none }) (fun _ => rfl) fun _ _ => rfl
  unfold State.failedAttempt
  split
  · exact (hlast.strikeOut (ha.modLink _ _) _).setDue _
  · exact State.SameService.keeps (s.modLink_sameService _ fun hdormant => absurd hdormant hd) h

theorem busyAnswer (h : s.StationsFollow) (ha : s.ArbiterAgrees) (a : StationNo) : (s.busyAnswer a).StationsFollow := by
  have hcounted := h.modLink a (fun l => { l with attempts := 0, busy := raiseBusy l.busy }) (fun _ => rfl)
    fun _ hretry => hretry
  have hdropped := hcounted.modLink a (fun l => { l with retry := none }) (fun _ => rfl) fun _ _ => rfl
  unfold State.busyAnswer
  dsimp only
  split
  · exact (hdropped.busyHalt ((ha.modLink a _).modLink a _) a).setDue a
  · exact hcounted.setDue a

theorem success (h : s.StationsFollow) (ha : s.ArbiterAgrees) (t : Transaction) (r : Report) :
    (s.success t r).StationsFollow := by
  have hflipped := h.modLink t.station (fun l => { l with seq := !l.seq, attempts := 0, busy := 0, retry := none })
    (fun _ => rfl) fun _ _ => rfl
  exact (hflipped.fileReport (ha.modLink _ _) _ _ r).setDue _

theorem judge (h : s.StationsFollow) (ha : s.ArbiterAgrees) {t : Transaction}
    (hd : (s.station t.station).state ≠ .dormant) (e : Ending) : (s.judge t e).StationsFollow := by
  have hwrong := h.modLink t.station (fun l => { l with busy := 0 }) (fun _ => rfl) fun _ hretry => hretry
  unfold State.judge
  split
  · exact h.failedAttempt ha hd
  · exact h.busyAnswer ha _
  · split
    · exact h.success ha t _
    · exact hwrong.failedAttempt (ha.modLink _ _) hd

/-- Only a station that is not DORMANT matches (R128). -/
theorem endTransaction (h : s.StationsFollow) (ha : s.ArbiterAgrees) (t : Transaction) (e : Ending) :
    (s.endTransaction t e).StationsFollow := by
  have hline : s.endLine.StationsFollow := State.SameService.keeps (.of_records rfl rfl rfl) h
  have haline : s.endLine.ArbiterAgrees := State.SameStates.keeps (.of_records rfl rfl) ha
  unfold State.endTransaction
  split
  next hmatches =>
    have hd : (s.endLine.station t.station).state ≠ .dormant :=
      of_decide_eq_true (Bool.and_eq_true_iff.1 hmatches).2
    have hjudged := hline.judge haline hd e
    dsimp only
    split
    · exact (State.noticeEnded_sameService _ _).keeps hjudged
    · exact hjudged
  · exact hline

theorem updateAlerts (h : s.StationsFollow) : s.updateAlerts.StationsFollow := s.updateAlerts_sameService.keeps h

theorem reply (h : s.StationsFollow) (c : Byte) (st : Status) (items : List Item) :
    (s.reply c st items).StationsFollow := (s.reply_sameService c st items).keeps h

theorem endWith (h : s.StationsFollow) (ha : s.ArbiterAgrees) (ending : Transaction → Ending) :
    (s.endWith ending).StationsFollow := by
  unfold State.endWith
  split
  · exact (h.endTransaction ha _ _).updateAlerts
  · exact h

/-! ### Timers, notices and samples -/

theorem onExpiry (h : s.StationsFollow) {m : MoverNo} {st : MState} {timer : Option Time} {f : State → State}
    (hf : (s.mover m).state = st → (f s).StationsFollow) : (s.onExpiry m st timer f).StationsFollow := by
  rcases s.onExpiry_cases m st timer f with ⟨hm, -, ht⟩ | ⟨-, ht⟩ <;> rw [ht]
  · exact (hf hm).updateAlerts
  · exact h

theorem enterFaulted (h : s.StationsFollow) (ha : s.ArbiterAgrees) (m : MoverNo) (code : FaultCode) :
    (s.enterFaulted m code).StationsFollow := (State.enterFaulted_sameService ha.queueInService m code).keeps h

theorem takeIntrusion (h : s.StationsFollow) (ha : s.ArbiterAgrees) (m : MoverNo) :
    (s.takeIntrusion m).StationsFollow := by
  unfold State.takeIntrusion
  split
  · have htaken : State.StationsFollow { s with toMovers := s.toMovers.erase m } :=
      State.SameService.keeps (.of_records rfl rfl rfl) h
    exact (htaken.enterFaulted ha _ _).updateAlerts
  · exact h

/-- What each member of a list does with both agreements, the whole list does. -/
theorem foldl {α : Type} {f : State → α → State} (h : s.StationsFollow) (ha : s.ArbiterAgrees)
    (hfa : ∀ (s : State) x, s.ArbiterAgrees → (f s x).ArbiterAgrees)
    (hf : ∀ (s : State) x, s.StationsFollow → s.ArbiterAgrees → (f s x).StationsFollow) (xs : List α) :
    (xs.foldl f s).StationsFollow := by
  induction xs generalizing s with
  | nil => exact h
  | cons x xs ih => exact ih (hf s x h ha) (hfa s x ha)

end State.StationsFollow
/-! ### The checks of UNLOCK and ASSIGN_STATION -/

/-- UNLOCK passes its checks for a mover with one LEAD alone (R45). -/
theorem State.leadCount_of_unlockRefusal {s : State} {m : MoverNo} (h : s.unlockRefusal m = none) :
    s.leadCount m = 1 := by
  unfold State.unlockRefusal at h
  split at h
  · cases h
  · split at h
    · cases h
    · split at h
      · cases h
      · split at h
        · cases h
        next hlead => exact Decidable.not_not.1 hlead

/-- A station that is not assigned, or whose mover is LOCKED_OUT, may change its assignment (R119 check 7, R121). -/
theorem State.servesInService_eq_none {s : State} {a : StationNo} : s.servesInService a = none ↔ s.OutOfService a := by
  unfold State.servesInService State.OutOfService
  split
  next x hx => simp [hx]
  next hx => simp [hx]

/-- ASSIGN_STATION passes its last checks for a station out of service, and a mover out of service with room for it (R119). -/
theorem State.assignable_of_assignRefusal {s : State} {a : StationNo} {m : MoverNo} {r : Role}
    (h : s.assignRefusal a m r = none) :
    (s.mover m).state = .lockedOut ∧ s.OutOfService a ∧
      ((s.station a).serves m = true ∨ (s.stationsOf m).length < 8) := by
  unfold State.assignRefusal at h
  split at h
  · cases h
  next hm =>
    split at h
    · cases h
    next hfree =>
      split at h
      · cases h
      · split at h
        · cases h
        next hroom =>
          refine ⟨Decidable.not_not.1 hm, State.servesInService_eq_none.1 hfree, ?_⟩
          by_cases hserves : (s.station a).serves m = true
          · exact .inl hserves
          · exact .inr (by simpa [hserves] using hroom)

namespace State.StationsFollow

variable {s : State}

theorem classNotice (h : s.StationsFollow) (ha : s.ArbiterAgrees) (ch : ChannelNo) :
    (s.classNotice ch).StationsFollow := by
  refine h.foldl ha (fun s m ha => ?_) (fun s m h ha => ?_) _
  · split
    · exact ha.stormReact
    · exact ha
  · split
    · exact (State.stormReact_sameService ha.queueInService m).keeps h
    · exact h

theorem windSample (h : s.StationsFollow) (ha : s.ArbiterAgrees) (ch : ChannelNo) (statusHigh : Bool) :
    (s.windSample ch statusHigh).StationsFollow := by
  have hsample : (s.modChannel ch
      (Channel.sample s.wind.settings (scaleOf s.wind.settings ch) statusHigh)).StationsFollow :=
    State.SameService.keeps (.of_records rfl rfl rfl) h
  unfold State.windSample
  dsimp only
  split
  · refine updateAlerts ?_
    split
    · exact hsample.classNotice ha ch
    · exact hsample
  · exact h

/-! ### The opening (R66) -/

/-- The opening at one mover: an enrol ends, or a mover in service is faulted, with no one waiting to be admitted. -/
theorem openMover (h : s.StationsFollow) (ho : s.Opening) (m : MoverNo) : (s.openMover m).StationsFollow := by
  have hqueue : s.QueueInService := fun e he => by simp [ho.queue] at he
  unfold State.openMover
  split
  · exact h.enterLockedOut m _
  · exact (State.enterFaulted_sameService hqueue m _).keeps h

theorem openEach (h : s.StationsFollow) (ho : s.Opening) (ms : List MoverNo) :
    (ms.foldl State.openMover s).StationsFollow := by
  induction ms generalizing s with
  | nil => exact h
  | cons m ms ih => exact ih (h.openMover ho m) (ho.openMover m).1

theorem takeOpeningMovers (h : s.StationsFollow) (ha : s.ArbiterAgrees) : s.takeOpeningMovers.StationsFollow := by
  unfold State.takeOpeningMovers
  split
  · exact h
  · have hbooks := ha.books
    have hempty : State.StationsFollow
        { s with openingsMovers := s.openingsMovers - 1, arbiter := { s.arbiter with queue := [] } } :=
      State.SameService.keeps (.of_records rfl rfl rfl) h
    have hopen := hempty.openEach ⟨⟨hbooks.limit, hbooks.count, hbooks.count_le⟩, rfl⟩ (List.finRange 12)
    exact ((State.giveNotices_sameService _ _).keeps hopen).updateAlerts

/-! ### The requests -/

theorem unlock (h : s.StationsFollow) (mover : Nat) : (s.unlock mover).StationsFollow := by
  unfold State.unlock
  split
  · exact h.reply _ _ _
  · split
    · exact h.reply _ _ _
    next hpassed => exact ((h.enterEnrolling (State.leadCount_of_unlockRefusal hpassed)).reply _ _ _).updateAlerts

theorem lock (h : s.StationsFollow) (mover : Nat) : (s.lock mover).StationsFollow := by
  unfold State.lock
  split
  · exact h.reply _ _ _
  · split
    · exact ((h.lockRun _).reply _ _ _).updateAlerts
    · exact ((h.lockRun _).reply _ _ _).updateAlerts
    · exact ((h.lockOut _ _).reply _ _ _).updateAlerts
    · exact h.reply _ _ _
    · exact h.reply _ _ _

theorem moveByState (h : s.StationsFollow) (m : MoverNo) (target profile : Nat) :
    (s.moveByState m target profile).StationsFollow := by
  have hunderway : (if requestDir target ((s.mover m).reference.getD 0) = (s.mover m).dir then
        (s.modMover m (Mover.retarget target profile)).reply 0x23 .ok [u16 profile]
      else s.reply 0x23 .refusedDirection []).StationsFollow := by
    split
    · exact ((s.modMover_sameService m Iff.rfl).keeps h).reply _ _ _
    · exact h.reply _ _ _
  have hrequest (hm : (s.mover m).state ≠ .lockedOut) (d : Dir) :
      ((s.modMover m fun x => { x.retarget target profile with dir := d }).requestAdmission m).StationsFollow := by
    have hset : s.SameService (s.modMover m fun x => { x.retarget target profile with dir := d }) :=
      s.modMover_sameService m Iff.rfl
    exact (hset.trans (State.requestAdmission_sameService (hset.inService hm))).keeps h
  unfold State.moveByState
  dsimp only
  split
  next hm => exact (hrequest (by rw [hm]; decide) _).reply _ _ _
  next hm => exact (hrequest (by rw [hm]; decide) _).reply _ _ _
  · exact hunderway
  · exact hunderway
  · exact hunderway
  · exact h.reply _ _ _

theorem move (h : s.StationsFollow) (mover target profile : Nat) : (s.move mover target profile).StationsFollow := by
  unfold State.move
  split
  · exact h.reply _ _ _
  · split
    · exact h.reply _ _ _
    · split
      · split
        · exact h.reply _ _ _
        · exact h.moveByState _ _ _
      · exact h.reply _ _ _

theorem stopMover (h : s.StationsFollow) (ha : s.ArbiterAgrees) (m : MoverNo) : (s.stopMover m).StationsFollow :=
  (State.stopMover_sameService ha.queueInService m).keeps h

theorem stop (h : s.StationsFollow) (ha : s.ArbiterAgrees) (mover : Nat) : (s.stop mover).StationsFollow := by
  unfold State.stop
  split
  · exact h.reply _ _ _
  · exact (h.stopMover ha _).reply _ _ _

theorem stopAll (h : s.StationsFollow) (ha : s.ArbiterAgrees) : s.stopAll.StationsFollow :=
  (h.foldl ha (fun _ _ ha => ha.stopMover) (fun _ m h ha => h.stopMover ha m) (List.finRange 12)).reply _ _ _

theorem resetFault (h : s.StationsFollow) (mover : Nat) : (s.resetFault mover).StationsFollow := by
  unfold State.resetFault
  split
  · exact h.reply _ _ _
  next m _ =>
    split
    · exact h.reply _ _ _
    next hpassed =>
      have hm : (s.mover m).state ≠ .lockedOut := by rw [State.faulted_of_resetRefusal hpassed]; decide
      have hclear : s.SameService (s.clearFault m) := State.enter_sameService hm (st := .parked) rfl (by decide) _ _
      exact ((hclear.keeps h).reply _ _ _).updateAlerts

theorem assignStation (h : s.StationsFollow) (address mover role : Nat) (offset : Int) (poll busyExp : Nat) :
    (s.assignStation address mover role offset poll busyExp).StationsFollow := by
  unfold State.assignStation
  split
  · exact h.reply _ _ _
  · split
    · exact h.reply _ _ _
    next hpassed =>
      obtain ⟨hm, ha, hroom⟩ := State.assignable_of_assignRefusal hpassed
      refine updateAlerts (reply (h.changeAssignment ha (fun y hy => ?_) fun y hy => ?_) _ _ _)
      · rw [← Option.mem_some.1 hy]
        exact hm
      · rw [← Option.mem_some.1 hy]
        exact hroom

theorem unassignStation (h : s.StationsFollow) (address : Nat) : (s.unassignStation address).StationsFollow := by
  unfold State.unassignStation
  split
  · exact h.reply _ _ _
  · split
    · exact h.reply _ _ _
    next hfree =>
      split
      · exact h.reply _ _ _
      · have hchange := h.changeAssignment (x := none) (State.servesInService_eq_none.1 hfree) nofun nofun
        exact (hchange.reply _ _ _).updateAlerts

theorem setAdmission (h : s.StationsFollow) (ha : s.ArbiterAgrees) (limit : Nat) :
    (s.setAdmission limit).StationsFollow := by
  have hlimit (v : Nat) : s.SameService { s with arbiter := { s.arbiter with limit := v } } := .of_records rfl rfl rfl
  have hqueue (v : Nat) : State.QueueInService { s with arbiter := { s.arbiter with limit := v } } := ha.queueInService
  unfold State.setAdmission
  dsimp only
  split
  · exact h.reply _ _ _
  · split
    · exact h.reply _ _ _
    · refine updateAlerts (reply ?_ _ _ _)
      split
      · exact ((hlimit _).trans (State.admitQueue_sameService (hqueue _))).keeps h
      · exact (hlimit _).keeps h

/-! ### Every request, and the port that takes them -/

/-- Whatever request the owning block acts on, the stations follow their movers after it. -/
theorem serve (h : s.StationsFollow) (ha : s.ArbiterAgrees) (i : Instr) : (s.serve i).StationsFollow := by
  cases i with
  | defineTrack => exact (s.defineTrack_sameService _ _ _ _).keeps h
  | removeTrack => exact (s.removeTrack_sameService _).keeps h
  | queryTrack => exact (s.queryTrack_sameService _).keeps h
  | blockSegment => exact (s.blockSegment_sameService _).keeps h
  | unblockSegment => exact (s.unblockSegment_sameService _).keeps h
  | querySegment => exact (s.querySegment_sameService _).keeps h
  | reserve => exact (s.reserve_sameService _ _ _).keeps h
  | release => exact (s.release_sameService _ _ _).keeps h
  | configureMover => exact (s.configureMover_sameService _ _).keeps h
  | unlock => exact h.unlock _
  | lock => exact h.lock _
  | move => exact h.move _ _ _
  | stop => exact h.stop ha _
  | stopAll => exact h.stopAll ha
  | resetFault => exact h.resetFault _
  | queryMover => exact (s.queryMover_sameService _).keeps h
  | assignStation => exact h.assignStation _ _ _ _ _ _
  | unassignStation => exact h.unassignStation _
  | queryStation => exact (s.queryStation_sameService _ _).keeps h
  | setAdmission => exact h.setAdmission ha _
  | setWind => exact (s.setWind_sameService _).keeps h
  | queryQueue | setProving | queryProving | queryWind | queryAlerts | ackAlerts | identify =>
    exact State.SameService.keeps (.of_records rfl rfl rfl) h
  | _ => exact h

theorem actOn (h : s.StationsFollow) (ha : s.ArbiterAgrees) (f : Frame) : (s.actOn f).StationsFollow := by
  unfold State.actOn
  split
  · exact h.serve ha _
  · exact h.reply _ _ _

/-- What stands at the port is no matter of the stations'. -/
theorem withPort (h : s.StationsFollow) (p : Port) : State.StationsFollow { s with port := p } :=
  State.SameService.keeps (.of_records rfl rfl rfl) h

theorem takeNext (h : s.StationsFollow) (ha : s.ArbiterAgrees) : s.takeNext.StationsFollow := by
  unfold State.takeNext
  split
  · exact ((h.withPort _).actOn (ha.withPort _) _).withPort _
  · exact h

theorem frameEnded (h : s.StationsFollow) (ha : s.ArbiterAgrees) (bytes : List Byte) (spoiled : Bool) :
    (s.frameEnded bytes spoiled).StationsFollow := by
  rcases s.frameEnded_cases bytes spoiled with ⟨-, ht⟩ | ⟨f, -, -, ht⟩ <;> rw [ht]
  · exact h
  · exact (h.withPort _).takeNext (ha.withPort _)

theorem receiveByte (h : s.StationsFollow) (ha : s.ArbiterAgrees) (b : LineByte) : (s.receiveByte b).StationsFollow := by
  unfold State.receiveByte
  dsimp only
  split
  · exact (h.withPort _).frameEnded (ha.withPort _) _ _
  · exact h.withPort _

theorem receive (h : s.StationsFollow) (ha : s.ArbiterAgrees) (line : List LineByte) : (s.receive line).StationsFollow :=
  h.foldl ha (fun _ b ha => ha.receiveByte b) (fun _ b h ha => h.receiveByte ha b) line

theorem answerSent (h : s.StationsFollow) (ha : s.ArbiterAgrees) : s.answerSent.StationsFollow := by
  unfold State.answerSent
  split
  · exact (h.withPort _).takeNext (ha.withPort _)
  · exact h

/-! ### Every command -/

/-- An event that keeps the stations with their movers does so too where a held reset lets nothing happen. -/
theorem whileRunning {t : State} {f : State → State} (h : s.StationsFollow) (ht : s.whileRunning f = .next t)
    (hf : (f s).StationsFollow) : t.StationsFollow := by
  by_cases hreset : s.resetLow = true
  · rw [State.whileRunning_held hreset] at ht
    cases ht
    exact h
  · rw [State.whileRunning_running (by simpa using hreset)] at ht
    cases ht
    exact hf

/-- After full reset no station is assigned and every mover is LOCKED_OUT (R37, R118). -/
theorem fullReset (s : State) : s.fullReset.StationsFollow := by
  have hfree (m) : s.fullReset.stationsOf m = [] :=
    List.filter_eq_nil_iff.2 fun a _ => by rw [s.fullReset_station a]; exact Bool.false_ne_true
  rw [State.stationsFollow_iff]
  refine ⟨fun a => iff_of_true ?_ ?_, fun a _ => ?_, fun m hm => ?_, fun m => ?_⟩
  · rw [s.fullReset_station a]
    rfl
  · rw [State.OutOfService, s.fullReset_station a]
    exact nofun
  · rw [State.Idle, s.fullReset_station a, s.fullReset_linkOf a]
    exact ⟨rfl, rfl, rfl, rfl⟩
  · rw [s.fullReset_mover m] at hm
    exact absurd rfl hm
  · rw [hfree]
    exact Nat.zero_le 8

theorem inputChange {t : State} {held running : Inputs → Inputs} (h : s.StationsFollow)
    (ht : Host.Outcome.next (s.inputChange held running) = (.next t : Host.Outcome State Fault Refusal)) :
    t.StationsFollow := by
  cases ht
  exact State.SameService.keeps (.of_records rfl rfl rfl) h

/-- Every command keeps the stations with their movers. -/
theorem exec {t : State} {c : Instr} (h : s.StationsFollow) (ha : s.ArbiterAgrees)
    (ht : Machine.exec c s = .next t) : t.StationsFollow := by
  have hrequest (hc : Machine.exec c s = s.whileRunning fun s => s.serve c) : t.StationsFollow :=
    h.whileRunning (hc.symm.trans ht) (h.serve ha c)
  cases c with
  | fullReset =>
    cases ht
    exact fullReset s
  | resetInputReleased =>
    cases ht
    exact s.resetReleased_sameService.keeps h
  | rainInputChange | estopInputChange => exact h.inputChange ht
  | frameReceived | frameLengthDrop => exact h.whileRunning (f := fun s => s.receive _) ht (h.receive ha _)
  | frameGapTimeout => exact h.whileRunning ht (h.withPort _)
  | answerSent => exact h.whileRunning ht (h.answerSent ha)
  | transactionStart => exact h.whileRunning ht (s.transactionStart_sameService.keeps h)
  | broadcastHoldStart => exact h.whileRunning ht (s.broadcastStart_sameService.keeps h)
  | broadcastHoldEnd => exact h.whileRunning ht (s.broadcastEnd_sameService.keeps h)
  | commandFrameEnd => exact h.whileRunning ht (s.commandFrameEnd_sameService.keeps h)
  | openingNoticeFieldLink => exact h.whileRunning ht (s.takeOpeningFieldLink_sameService.keeps h)
  | fieldAnswerReceived | answerBreak | answerWindowClosed =>
    exact h.whileRunning (f := fun s => s.endWith _) ht (h.endWith ha _)
  | provingTimerExpiry => exact h.whileRunning ht (s.provingExpiry_sameService.keeps h)
  | consistentFinding => exact h.whileRunning (f := fun s => s.takeConsistent _) ht ((s.takeConsistent_sameService _).keeps h)
  | inconsistentFinding =>
    exact h.whileRunning (f := fun s => s.takeInconsistent _) ht ((s.takeInconsistent_sameService _).keeps h)
  | trailingRelease => exact h.whileRunning (f := fun s => s.takeTrailing _) ht ((s.takeTrailing_sameService _).keeps h)
  | intrusionNotice => exact h.whileRunning (f := fun s => s.takeIntrusion _) ht (h.takeIntrusion ha _)
  | enrolTimerExpiry m =>
    exact h.whileRunning (f := fun s => s.onExpiry m .enrolling _ fun s => s.lockOut m _) ht
      (h.onExpiry fun _ => h.lockOut m _)
  | startTimerExpiry m =>
    exact h.whileRunning (f := fun s => s.onExpiry m .starting _ fun s => s.enterFaulted m _) ht
      (h.onExpiry fun _ => h.enterFaulted ha m _)
  | permitTimerExpiry m =>
    exact h.whileRunning (f := fun s => s.onExpiry m .moving _ fun s => s.enterFaulted m _) ht
      (h.onExpiry fun _ => h.enterFaulted ha m _)
  | dwellTimerExpiry m =>
    exact h.whileRunning (f := fun s => s.onExpiry m .moving _ fun s => s.enterStopping m _) ht
      (h.onExpiry fun hm => (State.enterStopping_sameService (by rw [hm]; decide) _).keeps h)
  | stopTimerExpiry m =>
    exact h.whileRunning (f := fun s => s.onExpiry m .stopping _ fun s => s.enterFaulted m _) ht
      (h.onExpiry fun _ => h.enterFaulted ha m _)
  | anemometerPulse =>
    exact h.whileRunning (f := fun s => s.modChannel _ _) ht (State.SameService.keeps (.of_records rfl rfl rfl) h)
  | windSample => exact h.whileRunning (f := fun s => s.windSample _ _) ht (h.windSample ha _ _)
  | rainOnExpiry => exact h.whileRunning ht (s.rainOn_sameService.keeps h)
  | rainOffExpiry => exact h.whileRunning ht (s.rainOff_sameService.keeps h)
  | chainOpen => exact h.whileRunning ht (s.chainOpens_sameService.keeps h)
  | chainClosed => exact h.whileRunning ht (s.chainCloses_sameService.keeps h)
  | openingNoticeMovers => exact h.whileRunning ht (h.takeOpeningMovers ha)
  | _ => exact hrequest rfl

end State.StationsFollow

end Sys2Proof.Machine

section

open Sys2Proof Sys2Proof.Machine

/-- Settles O15: an idle step is a tick, which moves no one into or out of service, and every command keeps the stations with
their movers. -/
theorem stationsFollowAtEveryStep : Obligations.StationsFollowAtEveryStep := by
  intro s t ha hs hstep
  cases hpending : s.pending with
  | nil =>
    rw [step_idle hpending] at hstep
    cases hstep
    exact s.tick_sameService.keeps hs
  | cons c rest =>
    rw [step_front hpending] at hstep
    have htaken : State.StationsFollow { s with pending := rest } := State.SameService.keeps (.of_records rfl rfl rfl) hs
    exact htaken.exec ha hstep

end
end

section
/-!
ASSIGN_STATION and UNASSIGN_STATION (R119 to R122): what each check reads, then the endings of the two requests in the order of their
checks, and the statement put together from them.
-/

namespace Sys2Proof.Machine

open Sys2Proof

/-! ### The operands (R119 checks 1 to 5) -/

theorem stationNo_eq_none {n : Nat} : stationNo n = none ↔ n = 0 ∨ 32 < n := by
  unfold stationNo
  split <;> simp <;> omega

theorem roleOf_eq_none {n : Nat} : roleOf n = none ↔ n = 0 ∨ 3 < n := by
  match n with
  | 0 | 1 | 2 | 3 => decide
  | n + 4 => exact iff_of_true rfl (.inr (by omega))

theorem roleOf_code (r : Role) : roleOf r.code = some r := by
  cases r <;> rfl

section

variable {address mover role busyExp : Nat} {offset : Int} {a : StationNo} {m : MoverNo} {r : Role}

theorem assignRange_address (h : stationNo address = none) :
    assignRange address mover role offset busyExp = .error 1 := by
  rw [assignRange, h]

theorem assignRange_mover (ha : stationNo address = some a) (h : moverNo mover = none) :
    assignRange address mover role offset busyExp = .error 2 := by
  rw [assignRange, ha, h]

theorem assignRange_role (ha : stationNo address = some a) (hm : moverNo mover = some m) (h : roleOf role = none) :
    assignRange address mover role offset busyExp = .error 3 := by
  rw [assignRange, ha, hm, h]

theorem assignRange_offset (ha : stationNo address = some a) (hm : moverNo mover = some m) (hr : roleOf role = some r)
    (h : offset < -200000 ∨ 200000 < offset) : assignRange address mover role offset busyExp = .error 4 := by
  rw [assignRange, ha, hm, hr]
  exact if_pos h

theorem assignRange_busyExp (ha : stationNo address = some a) (hm : moverNo mover = some m) (hr : roleOf role = some r)
    (ho : ¬ (offset < -200000 ∨ 200000 < offset)) (h : 16 < busyExp) :
    assignRange address mover role offset busyExp = .error 6 := by
  rw [assignRange, ha, hm, hr]
  exact (if_neg ho).trans (if_pos h)

theorem assignRange_ok (ha : stationNo address = some a) (hm : moverNo mover = some m) (hr : roleOf role = some r)
    (ho : ¬ (offset < -200000 ∨ 200000 < offset)) (hb : busyExp ≤ 16) :
    assignRange address mover role offset busyExp = .ok (a, m, r) := by
  rw [assignRange, ha, hm, hr]
  exact (if_neg ho).trans (if_neg (Nat.not_lt.2 hb))

end

/-! ### The station and its mover (R119 checks 6 to 9) -/

section

variable {s : State} {a : StationNo} {m : MoverNo} {r : Role}

theorem State.servesInService_eq_some {x : Assignment} (hx : (s.station a).assign = some x)
    (hm : (s.mover x.mover).state ≠ .lockedOut) : s.servesInService a = some x.mover := by
  rw [State.servesInService, hx]
  exact if_pos hm

/-- Station b is a LEAD of mover m at another address than a (R119 check 8). -/
def State.Rival (s : State) (a : StationNo) (m : MoverNo) (b : StationNo) : Prop :=
  b ≠ a ∧ ∃ x ∈ (s.station b).assign, x.mover = m ∧ x.role = .lead

theorem State.rival_iff {b : StationNo} :
    ((s.station b).serves m = true ∧ (decide (b ≠ a) && decide ((s.station b).role = some .lead)) = true) ↔
      s.Rival a m b := by
  rw [Bool.and_eq_true_iff, Station.serves_iff, decide_eq_true_eq, decide_eq_true_eq, State.Rival, Station.role]
  cases (s.station b).assign with
  | none => simp
  | some x => simp [and_left_comm]

/-- Check 8 finds the rival LEAD of the lowest address. -/
theorem State.otherLead_eq_some {b : StationNo} (hb : s.Rival a m b) (hlow : ∀ b', b' < b → ¬ s.Rival a m b') :
    s.otherLead a m = some b := by
  rw [State.otherLead, State.stationsOf, List.find?_filter, ← Fin.find?_eq_find?_finRange, Fin.find?_eq_some_iff]
  exact ⟨decide_eq_true (State.rival_iff.2 hb), fun b' hlt => decide_eq_false (mt State.rival_iff.1 (hlow b' hlt))⟩

theorem State.otherLead_eq_none (h : ∀ b, ¬ s.Rival a m b) : s.otherLead a m = none := by
  rw [State.otherLead, State.stationsOf, List.find?_filter, List.find?_eq_none]
  exact fun b _ hb => h b (State.rival_iff.1 (of_decide_eq_true hb))

theorem State.assignRefusal_mover (hm : (s.mover m).state ≠ .lockedOut) :
    s.assignRefusal a m r = some (.refusedState, [u8 m.val, u8 (s.mover m).state.code]) :=
  if_pos hm

theorem State.assignRefusal_assigned (hm : (s.mover m).state = .lockedOut) {old : MoverNo}
    (hold : s.servesInService a = some old) :
    s.assignRefusal a m r = some (.refusedState, [u8 old.val, u8 (s.mover old).state.code]) := by
  rw [State.assignRefusal, if_neg (not_not.2 hm), hold]

theorem State.assignRefusal_lead (hm : (s.mover m).state = .lockedOut) (hfree : s.OutOfService a) (hr : r = .lead)
    {b : StationNo} (hb : s.otherLead a m = some b) :
    s.assignRefusal a m r = some (.refusedConfig, [u8 (b.val + 1)]) := by
  rw [State.assignRefusal, if_neg (not_not.2 hm), State.servesInService_eq_none.2 hfree, if_pos hr, hb]
  rfl

/-- With no rival LEAD, or for another role, check 9 decides: the mover has the station, or has room for it. -/
theorem State.assignRefusal_room (hm : (s.mover m).state = .lockedOut) (hfree : s.OutOfService a)
    (hlead : r = .lead → ∀ b, ¬ s.Rival a m b) :
    s.assignRefusal a m r =
      if (s.station a).serves m = false ∧ 8 ≤ (s.stationsOf m).length then
        some (.refusedConfig, [u8 (s.stationsOf m).length])
      else none := by
  have hother : (if r = .lead then s.otherLead a m else none) = none := by
    split
    next hr => exact State.otherLead_eq_none (hlead hr)
    · rfl
  rw [State.assignRefusal, if_neg (not_not.2 hm), State.servesInService_eq_none.2 hfree, hother]
  simp

end

/-! ### The endings -/

section

variable {s : State} {address mover role poll busyExp : Nat} {offset : Int} {a : StationNo} {m : MoverNo} {r : Role}

theorem State.assignStation_outOfRange {item : Nat} (h : assignRange address mover role offset busyExp = .error item) :
    s.assignStation address mover role offset poll busyExp = s.reply 0x30 .refusedRange [u8 item] := by
  rw [State.assignStation, h]

theorem State.assignStation_refused (h : assignRange address mover role offset busyExp = .ok (a, m, r)) {status : Status}
    {items : List Item} (hrefused : s.assignRefusal a m r = some (status, items)) :
    s.assignStation address mover role offset poll busyExp = s.reply 0x30 status items := by
  rw [State.assignStation, h]
  dsimp only
  rw [hrefused]

/-- The answer gives the generation that the change has advanced (R120, R121). -/
theorem State.generation_changeAssignment (s : State) (a : StationNo) (x : Option Assignment) :
    ((s.changeAssignment a x).station a).generation = (s.station a).generation + 1#8 := by
  rw [State.station_changeAssignment, if_pos rfl]
  rfl

theorem State.assignStation_accepted (h : assignRange address mover role offset busyExp = .ok (a, m, r))
    (hpassed : s.assignRefusal a m r = none) :
    s.assignStation address mover role offset poll busyExp =
      ((s.changeAssignment a (some
        { mover := m, role := r, offset := offset, poll := min 1000 (max 10 poll), busyExp := busyExp })).reply 0x30 .ok
          [u16 (min 1000 (max 10 poll)), u8 ((s.station a).generation + 1#8).toNat]).updateAlerts := by
  rw [State.assignStation, h]
  dsimp only
  rw [hpassed, clampNat_eq_min_max (by decide)]
  dsimp only
  rw [State.generation_changeAssignment]

theorem State.unassignStation_outOfRange (h : stationNo address = none) :
    s.unassignStation address = s.reply 0x31 .refusedRange [] := by
  rw [State.unassignStation, h]

theorem State.unassignStation_inService (h : stationNo address = some a) (hm : s.servesInService a = some m) :
    s.unassignStation address = s.reply 0x31 .refusedState [u8 m.val, u8 (s.mover m).state.code] := by
  rw [State.unassignStation, h]
  dsimp only
  rw [hm]

theorem State.unassignStation_free (h : stationNo address = some a) (hx : (s.station a).assign = none) :
    s.unassignStation address = s.reply 0x31 .ok [] := by
  have hfree : s.OutOfService a := by rw [State.OutOfService, hx]; exact nofun
  rw [State.unassignStation, h]
  dsimp only
  rw [State.servesInService_eq_none.2 hfree]
  exact if_pos (by rw [hx]; rfl)

theorem State.unassignStation_accepted (h : stationNo address = some a) {x : Assignment}
    (hx : (s.station a).assign = some x) (hm : (s.mover x.mover).state = .lockedOut) :
    s.unassignStation address =
      ((s.changeAssignment a none).reply 0x31 .ok [u8 ((s.station a).generation + 1#8).toNat]).updateAlerts := by
  have hfree : s.OutOfService a := fun y hy => by rwa [← Option.some.inj (hx.symm.trans hy)]
  rw [State.unassignStation, h]
  dsimp only
  rw [State.servesInService_eq_none.2 hfree]
  dsimp only
  rw [if_neg (by rw [hx]; exact Bool.false_ne_true), State.generation_changeAssignment]

end

end Sys2Proof.Machine

section

open Sys2Proof Sys2Proof.Machine

/-- Settles O44, check by check. -/
theorem assignAndUnassign : Obligations.AssignAndUnassign := by
  intro s address mover role offset poll busyExp hrunning assigns unassigns changed
  have hassign : exec (.assignStation address mover role offset poll busyExp) s =
      .next (s.assignStation address mover role offset poll busyExp) :=
    State.whileRunning_running hrunning fun s => s.assignStation address mover role offset poll busyExp
  have hunassign : exec (.unassignStation address) s = .next (s.unassignStation address) :=
    State.whileRunning_running hrunning fun s => s.unassignStation address
  have hrange {item : Nat} (h : assignRange address mover role offset busyExp = .error item) :
      assigns .refusedRange [u8 item] := hassign.trans (congrArg _ (State.assignStation_outOfRange h))
  refine ⟨fun haddress => ?_, fun a ha => ?_⟩
  · have hnone := stationNo_eq_none.2 haddress
    exact ⟨hrange (assignRange_address hnone), hunassign.trans (congrArg _ (State.unassignStation_outOfRange hnone))⟩
  · have hsome := stationNo_eq_some.2 ha
    have hmover (h : mover ≤ 11) : moverNo mover = some ⟨mover, by omega⟩ := moverNo_eq_some.2 rfl
    have hrole (hlow : 1 ≤ role) (hhigh : role ≤ 3) : ∃ r, roleOf role = some r :=
      Option.ne_none_iff_exists'.1 fun h => by have := roleOf_eq_none.1 h; omega
    refine ⟨fun hm => ?_, fun hm hr => ?_, fun hm hlow hhigh ho => ?_, fun hm hlow hhigh hmin hmax hb => ?_,
      fun x hx hm => ?_, fun hx => ?_, fun x hx hm => ?_, fun m r hm hr hmin hmax hb => ?_⟩
    · exact hrange (assignRange_mover hsome (moverNo_eq_none.2 hm))
    · exact hrange (assignRange_role hsome (hmover hm) (roleOf_eq_none.2 hr))
    · obtain ⟨r, hr⟩ := hrole hlow hhigh
      exact hrange (assignRange_offset hsome (hmover hm) hr ho)
    · obtain ⟨r, hr⟩ := hrole hlow hhigh
      exact hrange (assignRange_busyExp hsome (hmover hm) hr (by omega) hb)
    · exact hunassign.trans
        (congrArg _ (State.unassignStation_inService hsome (State.servesInService_eq_some hx hm)))
    · exact hunassign.trans (congrArg _ (State.unassignStation_free hsome hx))
    · exact hunassign.trans (congrArg _ (State.unassignStation_accepted hsome hx hm))
    · intro rival
      have hok : assignRange address mover role offset busyExp = .ok (a, m, r) :=
        assignRange_ok hsome (moverNo_eq_some.2 hm) (hr ▸ roleOf_code r) (by omega) hb
      have hrefused {status : Status} {items : List Item} (h : s.assignRefusal a m r = some (status, items)) :
          assigns status items := hassign.trans (congrArg _ (State.assignStation_refused hok h))
      refine ⟨fun hm => hrefused (State.assignRefusal_mover hm), fun hm => ⟨fun x hx hold => ?_, fun hfree => ?_⟩⟩
      · exact hrefused (State.assignRefusal_assigned hm (State.servesInService_eq_some hx hold))
      · refine ⟨fun hlead b hb hlow => ?_, fun hlead => ⟨fun hserves hfull => ?_, fun hroom => ?_⟩⟩
        · exact hrefused (State.assignRefusal_lead hm hfree hlead (State.otherLead_eq_some hb hlow))
        · exact hrefused ((State.assignRefusal_room hm hfree hlead).trans (if_pos ⟨hserves, hfull⟩))
        · have hpassed : s.assignRefusal a m r = none := by
            rw [State.assignRefusal_room hm hfree hlead, if_neg]
            rintro ⟨hserves, hfull⟩
            exact hroom.elim (fun h => by rw [hserves] at h; cases h) (Nat.not_lt.2 hfull)
          exact hassign.trans (congrArg _ (State.assignStation_accepted hok hpassed))

end
end


section
/-!
The bytes of the field link's answers (R135 to R138): first how numbers become bytes and bytes numbers, then the fields of a REPORT
as they are sent and as they are read, one equivalence per field, and then how an answer is judged by its bytes.
-/

namespace Sys2Proof

open Sys2Proof.Laws.BodyLength

/-! ### Numbers as bytes (R138, R173) -/

theorem foldl_ofBytes (bytes : List Byte) (acc : Nat) :
    bytes.foldl (fun acc b => acc * 256 + b.toNat) acc = acc * 256 ^ bytes.length + ofBytes bytes := by
  induction bytes generalizing acc with
  | nil => simp [ofBytes]
  | cons b rest ih =>
    rw [ofBytes, List.foldl_cons, List.foldl_cons, ih, ih, List.length_cons]
    ring

/-- The first byte is the most significant one. -/
theorem ofBytes_cons (b : Byte) (rest : List Byte) :
    ofBytes (b :: rest) = 256 ^ rest.length * b.toNat + ofBytes rest := by
  rw [ofBytes, List.foldl_cons, foldl_ofBytes]
  ring

theorem ofBytes_lt (bytes : List Byte) : ofBytes bytes < 256 ^ bytes.length := by
  induction bytes with
  | nil => exact Nat.one_pos
  | cons b rest ih =>
    have hb : 256 ^ rest.length * b.toNat ≤ 256 ^ rest.length * 255 := Nat.mul_le_mul_left _ (by have := b.isLt; omega)
    rw [ofBytes_cons, List.length_cons, pow_succ]
    omega

/-- The bytes sent carry the number modulo the power of 256 that their count gives. -/
theorem ofBytes_toBytes (k : Nat) (z : Int) : (ofBytes (toBytes k z) : Int) = z % 256 ^ k := by
  induction k generalizing z with
  | zero => simp [toBytes, ofBytes]
  | succ k ih =>
    have hbyte : ((BitVec.ofInt 8 (z / 256 ^ k)).toNat : Int) = z / 256 ^ k % 256 := by
      rw [BitVec.toNat_ofInt]
      omega
    rw [toBytes, ofBytes_cons, toBytes_length]
    push_cast
    rw [hbyte, ih, pow_succ, Int.emod_def z (_ * _), ← Int.ediv_ediv_of_nonneg (by positivity), Int.emod_def, Int.emod_def z]
    ring

/-- Only the number modulo that power is sent. -/
theorem toBytes_add_mul (k : Nat) (z m : Int) : toBytes k (z + 256 ^ k * m) = toBytes k z := by
  induction k generalizing m with
  | zero => rfl
  | succ k ih =>
    have hsplit : z + 256 ^ (k + 1) * m = z + 256 ^ k * (256 * m) := by ring
    have hbyte : BitVec.ofInt 8 (z / 256 ^ k + 256 * m) = BitVec.ofInt 8 (z / 256 ^ k) := by
      apply BitVec.eq_of_toNat_eq
      rw [BitVec.toNat_ofInt, BitVec.toNat_ofInt]
      omega
    rw [toBytes, toBytes, hsplit, ih]
    push_cast
    rw [Int.add_mul_ediv_left _ _ (by positivity), hbyte]

/-- Bytes read and sent again are the same bytes. -/
theorem toBytes_ofBytes (bytes : List Byte) : toBytes bytes.length (ofBytes bytes) = bytes := by
  induction bytes with
  | nil => rfl
  | cons b rest ih =>
    have hrest : (ofBytes rest : Int) < 256 ^ rest.length := mod_cast ofBytes_lt rest
    have hnumber : (ofBytes (b :: rest) : Int) = ofBytes rest + 256 ^ rest.length * b.toNat := by
      rw [ofBytes_cons]
      push_cast
      ring
    rw [hnumber, List.length_cons, toBytes, toBytes_add_mul, ih]
    push_cast
    rw [Int.add_mul_ediv_left _ _ (by positivity), Int.ediv_eq_zero_of_lt (by positivity) hrest, zero_add,
      BitVec.ofInt_natCast, BitVec.ofNat_toNat, BitVec.setWidth_eq]

/-- Bytes carry a number exactly when they are read as it, modulo the power of 256 that their count gives. -/
theorem toBytes_eq_iff {z : Int} {bytes : List Byte} :
    toBytes bytes.length z = bytes ↔ z % 256 ^ bytes.length = ofBytes bytes := by
  refine ⟨fun h => by rw [← ofBytes_toBytes, h], fun h => ?_⟩
  rw [← Int.emod_add_mul_ediv z (256 ^ bytes.length), toBytes_add_mul, h, toBytes_ofBytes]

/-- The same of a natural number that fits the bytes. -/
theorem toBytes_natCast_eq_iff {n : Nat} {bytes : List Byte} (h : n < 256 ^ bytes.length) :
    toBytes bytes.length n = bytes ↔ ofBytes bytes = n := by
  rw [toBytes_eq_iff, Int.emod_eq_of_lt (by positivity) (mod_cast h), Nat.cast_inj, eq_comm]

/-- The same of a number in two's complement, which always lies within the range of its bytes. -/
theorem ofBytesSigned_eq_iff {z : Int} {bytes : List Byte} :
    ofBytesSigned bytes = z ↔
      toBytes bytes.length z = bytes ∧ -(256 ^ bytes.length) ≤ 2 * z ∧ 2 * z < 256 ^ bytes.length := by
  have hlt : (ofBytes bytes : Int) < 256 ^ bytes.length := mod_cast ofBytes_lt bytes
  have hcases : ofBytesSigned bytes =
      if 2 * (ofBytes bytes : Int) < 256 ^ bytes.length then (ofBytes bytes : Int)
      else (ofBytes bytes : Int) - 256 ^ bytes.length := by
    rw [ofBytesSigned]
    push_cast [← Nat.cast_lt (α := Int)]
    rfl
  rw [hcases, toBytes_eq_iff]
  generalize (256 ^ bytes.length : Int) = m at *
  constructor
  · rintro rfl
    split
    · exact ⟨Int.emod_eq_of_lt (by omega) hlt, by omega, by omega⟩
    · exact ⟨by rw [Int.sub_emod_right]; exact Int.emod_eq_of_lt (by omega) hlt, by omega, by omega⟩
  · rintro ⟨hz, hlow, hhigh⟩
    rcases le_or_gt 0 z with hpos | hneg
    · rw [Int.emod_eq_of_lt hpos (by omega)] at hz
      rw [if_pos (by omega), hz]
    · rw [← Int.add_emod_right, Int.emod_eq_of_lt (by omega) (by omega)] at hz
      rw [if_neg (by omega)]
      omega
end Sys2Proof

namespace Sys2Proof.Machine

open Sys2Proof Sys2Proof.Laws.BodyLength

/-! ### The CRC (R138) -/

@[simp] theorem crcBytes_length (bytes : List Byte) : (crcBytes bytes).length = 2 := toBytes_length 2 _

/-- Some bytes and two more match as a frame exactly when the two are the CRC of the others. -/
theorem crcMatches_append_iff {fields crc : List Byte} (h : crc.length = 2) :
    crcMatches (fields ++ crc) = true ↔ crc = crcBytes fields := by
  simp [crcMatches, h]

/-! ### The codes of a REPORT (R137, R138) -/

theorem positionOf_eq_some_iff {raw : Nat} {p : Option Nat} :
    positionOf raw = some p ↔ raw = p.getD 0xFFFFFF ∧ ∀ x ∈ p, x ≤ 999999 := by
  unfold positionOf
  cases p with
  | none => grind
  | some x =>
    have hx : (∀ y ∈ some x, y ≤ 999999) ↔ x ≤ 999999 := by simp
    rw [hx]
    grind

theorem brakeOf_eq_some_iff {code : Nat} {b : Brake} : brakeOf code = some b ↔ code = b.code := by
  unfold brakeOf
  cases b with
  | applied | released | transit => grind [Brake.code]

theorem capabilityOf_eq_some_iff {code : Nat} {k : Capability} :
    capabilityOf code = some k ↔ code = capabilityCode (some k) := by
  unfold capabilityOf
  cases k with
  | driveBrake | brakeOnly => grind [capabilityCode]

/-- A REPORT's kind byte is 0x11, with the sequence bit above it. -/
theorem reportKind_iff {kind : Nat} (h : kind < 256) {seq : Bool} :
    kind = 0x11 + (if seq then 128 else 0) ↔ kind % 128 = 0x11 ∧ decide (128 ≤ kind) = seq := by
  cases seq with
  | false => grind
  | true => grind

/-- One byte carries a number that fits it exactly when the number is its value. -/
theorem toBytes_one_eq_iff {n : Nat} {b : Byte} (h : n < 256) : toBytes 1 n = [b] ↔ b.toNat = n := by
  simpa [ofBytes] using toBytes_natCast_eq_iff (bytes := [b]) (by simpa using h)

/-! ### A REPORT as bytes and as a report (R137, R138) -/

/-- A REPORT up to its CRC, byte by byte; a capability in an answer to IDENT only. -/
structure ReportBytes where
  address : Byte
  kind : Byte
  position : Byte × Byte × Byte
  speed : Byte × Byte
  brake : Byte
  fault : Byte
  capability : Option Byte

/-- The bytes in the order of the frame. -/
def ReportBytes.fields (x : ReportBytes) : List Byte :=
  [x.address, x.kind, x.position.1, x.position.2.1, x.position.2.2, x.speed.1, x.speed.2, x.brake, x.fault] ++
    x.capability.toList

/-- What the part reads in them, once it has found kind, CRC and address right. -/
def ReportBytes.read (now : Time) (x : ReportBytes) : Ending :=
  readReport now x.kind x.position.1 x.position.2.1 x.position.2.2 x.speed.1 x.speed.2 x.brake x.fault x.capability

theorem ReportBytes.read_eq_report_iff {now : Time} {x : ReportBytes} {seq : Bool} {r : Report} :
    x.read now = .report seq r ↔
      positionOf (ofBytes [x.position.1, x.position.2.1, x.position.2.2]) = some r.position ∧
      brakeOf x.brake.toNat = some r.brake ∧
      x.capability.map (fun c => capabilityOf c.toNat) = r.capability.map some ∧
      decide (128 ≤ x.kind.toNat) = seq ∧ ofBytesSigned [x.speed.1, x.speed.2] = r.speed ∧
      x.fault.toNat = r.faultCode ∧ now = r.arrival := by
  constructor
  · intro h
    unfold read readReport at h
    split at h
    next hp hb =>
      dsimp only at h
      split at h
      next hcap =>
        cases h
        exact ⟨hp, hb, by rw [hcap]; rfl, rfl, rfl, rfl, rfl⟩
      next c hcap =>
        split at h
        next k hk =>
          cases h
          exact ⟨hp, hb, by rw [hcap, Option.map_some, hk]; rfl, rfl, rfl, rfl, rfl⟩
        next => cases h
    next => cases h
  · rintro ⟨hp, hb, hcap, rfl, hv, hf, hnow⟩
    obtain ⟨position, speed, brake, fault, capability, arrival⟩ := r
    rw [read, readReport, hp, hb, hv, hf, hnow]
    cases capability with
    | none => rw [Option.map_eq_none_iff.1 hcap]
    | some k =>
      obtain ⟨c, hc, hk⟩ := Option.map_eq_some_iff.1 hcap
      rw [hc]
      dsimp only
      rw [hk]

/-- The capability byte of a REPORT, where it carries one. -/
def capabilityBytes (k : Option Capability) : List Byte :=
  match k with
  | some c => toBytes 1 (capabilityCode (some c) : Int)
  | none => []

/-- The fields of a REPORT as a station sends it. -/
def reportFields (address : Nat) (seq : Bool) (r : Report) : List Byte :=
  toBytes 1 (address : Int) ++ toBytes 1 ((0x11 + if seq then 128 else 0 : Nat) : Int) ++
    toBytes 3 ((r.position.getD 0xFFFFFF : Nat) : Int) ++ toBytes 2 r.speed ++ toBytes 1 (r.brake.code : Int) ++
    toBytes 1 (r.faultCode : Int) ++ capabilityBytes r.capability

theorem reportFrame_eq (address : Nat) (seq : Bool) (r : Report) :
    reportFrame address seq r = reportFields address seq r ++ crcBytes (reportFields address seq r) := rfl

/-- A report within the ranges of its fields. -/
structure Report.InRange (r : Report) : Prop where
  position : ∀ p ∈ r.position, p ≤ 999999
  speed_ge : -32768 ≤ r.speed
  speed_le : r.speed ≤ 32767
  fault : r.faultCode < 256

theorem ReportBytes.fields_eq_iff {address : Nat} {seq : Bool} {r : Report} {x : ReportBytes} :
    x.fields = reportFields address seq r ↔
      toBytes 1 (address : Int) = [x.address] ∧
      toBytes 1 ((0x11 + if seq then 128 else 0 : Nat) : Int) = [x.kind] ∧
      toBytes 3 ((r.position.getD 0xFFFFFF : Nat) : Int) = [x.position.1, x.position.2.1, x.position.2.2] ∧
      toBytes 2 r.speed = [x.speed.1, x.speed.2] ∧ toBytes 1 (r.brake.code : Int) = [x.brake] ∧
      toBytes 1 (r.faultCode : Int) = [x.fault] ∧ capabilityBytes r.capability = x.capability.toList := by
  rw [eq_comm]
  simp [ReportBytes.fields, reportFields, toBytes, and_assoc]

theorem positionBytes_iff {p1 p2 p3 : Byte} {p : Option Nat} :
    positionOf (ofBytes [p1, p2, p3]) = some p ↔
      toBytes 3 ((p.getD 0xFFFFFF : Nat) : Int) = [p1, p2, p3] ∧ ∀ x ∈ p, x ≤ 999999 := by
  rw [positionOf_eq_some_iff, and_congr_left_iff]
  intro hp
  refine (toBytes_natCast_eq_iff (bytes := [p1, p2, p3]) ?_).symm
  cases p with
  | none => simp
  | some x => exact (hp x rfl).trans_lt (by simp)

theorem brakeByte_iff {brake : Byte} {b : Brake} :
    brakeOf brake.toNat = some b ↔ toBytes 1 (b.code : Int) = [brake] := by
  rw [brakeOf_eq_some_iff, toBytes_one_eq_iff]
  cases b <;> decide

theorem capabilityByte_iff {c : Option Byte} {k : Option Capability} :
    c.map (fun c => capabilityOf c.toNat) = k.map some ↔ capabilityBytes k = c.toList := by
  have hcode (k : Capability) : capabilityCode (some k) < 256 := by cases k <;> decide
  cases k with
  | none => cases c <;> simp [capabilityBytes]
  | some k =>
    cases c with
    | none => simp [capabilityBytes, toBytes]
    | some c => simpa [capabilityBytes, capabilityOf_eq_some_iff] using (toBytes_one_eq_iff (hcode k)).symm

theorem faultByte_iff {fault : Byte} {n : Nat} : fault.toNat = n ↔ toBytes 1 (n : Int) = [fault] ∧ n < 256 := by
  constructor
  · rintro rfl
    exact ⟨(toBytes_one_eq_iff fault.isLt).2 rfl, fault.isLt⟩
  · rintro ⟨hbyte, hlt⟩
    exact (toBytes_one_eq_iff hlt).1 hbyte

theorem speedBytes_iff {v1 v2 : Byte} {v : Int} :
    ofBytesSigned [v1, v2] = v ↔ toBytes 2 v = [v1, v2] ∧ -32768 ≤ v ∧ v ≤ 32767 := by
  rw [ofBytesSigned_eq_iff]
  refine and_congr_right' ?_
  simp only [List.length_cons, List.length_nil]
  omega

theorem ReportBytes.exists_fields_eq (address : Nat) (seq : Bool) (r : Report) :
    ∃ x : ReportBytes, x.fields = reportFields address seq r := by
  let capability := r.capability.map fun c => BitVec.ofNat 8 (capabilityCode (some c))
  refine ⟨⟨_, _, (_, _, _), (_, _), _, _, capability⟩, fields_eq_iff.2 ⟨rfl, rfl, rfl, rfl, rfl, rfl, ?_⟩⟩
  simp only [capability]
  cases r.capability with
  | none => rfl
  | some k => simp [capabilityBytes, toBytes]

/-- Bytes are those of a report in range exactly when the part reads them as that report. -/
theorem ReportBytes.sent_iff_read {now : Time} {address : Nat} {seq : Bool} {r : Report} {x : ReportBytes}
    (ha : address < 256) :
    x.fields = reportFields address seq r ∧ r.InRange ∧ now = r.arrival ↔
      x.address.toNat = address ∧ x.kind.toNat % 128 = 0x11 ∧ x.read now = .report seq r := by
  have hkind : 0x11 + (if seq then 128 else 0) < 256 := by cases seq <;> decide
  have hrange : r.InRange ↔
      (∀ p ∈ r.position, p ≤ 999999) ∧ -32768 ≤ r.speed ∧ r.speed ≤ 32767 ∧ r.faultCode < 256 :=
    ⟨fun ⟨hp, hlow, hhigh, hf⟩ => ⟨hp, hlow, hhigh, hf⟩, fun ⟨hp, hlow, hhigh, hf⟩ => ⟨hp, hlow, hhigh, hf⟩⟩
  rw [fields_eq_iff, toBytes_one_eq_iff ha, toBytes_one_eq_iff hkind, reportKind_iff x.kind.isLt, hrange,
    read_eq_report_iff, positionBytes_iff, brakeByte_iff, capabilityByte_iff, speedBytes_iff,
    faultByte_iff (n := r.faultCode)]
  tauto

theorem ReportBytes.isSome_of_read {now : Time} {seq : Bool} {r : Report} {x : ReportBytes}
    (h : x.read now = .report seq r) : x.capability.isSome = r.capability.isSome := by
  obtain ⟨-, -, hcapability, -⟩ := read_eq_report_iff.1 h
  simpa using congrArg Option.isSome hcapability

/-! ### Answers judged by their bytes (R135, R137) -/

/-- A REPORT of the right length, CRC and address is read by its fields, whatever bytes come after it. -/
theorem readAnswer_reportBytes {now : Time} {c : Command} {x : ReportBytes} (hkind : x.kind.toNat % 128 = 0x11)
    (hc : x.capability.isSome = true ↔ c = .ident) (tail : List Byte) :
    readAnswer now x.address.toNat c (x.fields ++ crcBytes x.fields ++ tail) = x.read now := by
  have hcrc : crcMatches (x.fields ++ crcBytes x.fields) = true := (crcMatches_append_iff (crcBytes_length _)).2 rfl
  obtain ⟨c1, c2, hpair⟩ := List.length_eq_two.1 (crcBytes_length x.fields)
  rw [hpair] at hcrc ⊢
  cases hcap : x.capability with
  | none =>
    have hc : c ≠ .ident := by simpa [hcap] using hc.not
    rw [ReportBytes.fields, hcap] at hcrc ⊢
    simpa [readAnswer, hkind, hc, ReportBytes.read, hcap] using fun h => absurd hcrc (by simpa using h)
  | some k =>
    have hc : c = .ident := hc.1 (by rw [hcap]; rfl)
    rw [ReportBytes.fields, hcap] at hcrc ⊢
    simpa [readAnswer, hkind, hc, ReportBytes.read, hcap] using fun h => absurd hcrc (by simpa using h)

/-- The length of a REPORT that answers the command (R137). -/
def reportLength (c : Command) : Nat := if c = .ident then 12 else 11

theorem busyFrame_toNat (a : Byte) : busyFrame a.toNat = [a, 0x12#8] ++ crcBytes [a, 0x12#8] := by
  rw [busyFrame, (toBytes_one_eq_iff a.isLt).2 rfl]
  rfl

/-- A BUSY of the right address is read as one, whatever bytes come after it (log entry 16). -/
theorem readAnswer_busyFrame (now : Time) (a : Byte) (c : Command) (tail : List Byte) :
    readAnswer now a.toNat c (busyFrame a.toNat ++ tail) = .busy := by
  have hcrc : crcMatches ([a, 0x12#8] ++ crcBytes [a, 0x12#8]) = true :=
    (crcMatches_append_iff (crcBytes_length _)).2 rfl
  obtain ⟨c1, c2, hpair⟩ := List.length_eq_two.1 (crcBytes_length [a, 0x12#8])
  rw [busyFrame_toNat]
  rw [hpair] at hcrc ⊢
  simpa [readAnswer] using hcrc

/-- The bytes begin with the REPORT x from the station, with a capability exactly in answer to IDENT (R137). -/
structure ReportBytes.Answers (x : ReportBytes) (address : Nat) (c : Command) (bytes : List Byte) : Prop where
  take : bytes.take (reportLength c) = x.fields ++ crcBytes x.fields
  address : x.address.toNat = address
  kind : x.kind.toNat % 128 = 0x11
  capability : x.capability.isSome = true ↔ c = .ident

theorem ReportBytes.answers_of_take {x : ReportBytes} {address : Nat} {c : Command} {bytes crc : List Byte}
    (htake : bytes.take (reportLength c) = x.fields ++ crc) (hlength : crc.length = 2)
    (hframe : crcMatches (bytes.take (reportLength c)) = true ∧ x.address.toNat = address)
    (hkind : x.kind.toNat % 128 = 0x11) (hc : x.capability.isSome = true ↔ c = .ident) : x.Answers address c bytes where
  take := by
    rw [htake] at hframe
    rw [htake, (crcMatches_append_iff hlength).1 hframe.1]
  address := hframe.2
  kind := hkind
  capability := hc

/-- What an answer can be: a REPORT, which is read by its fields, a BUSY, or a failed attempt (R140). -/
theorem readAnswer_cases (now : Time) (address : Nat) (c : Command) (bytes : List Byte) :
    (∃ x : ReportBytes, x.Answers address c bytes ∧ readAnswer now address c bytes = x.read now) ∨
    (bytes.take 4 = busyFrame address ∧ readAnswer now address c bytes = .busy) ∨
    readAnswer now address c bytes = .failed := by
  unfold readAnswer
  split
  · exact .inr (.inr rfl)
  · exact .inr (.inr rfl)
  next a kind rest =>
    split
    next hkind =>
      split
      next hc =>
        split
        next a' kind' p1 p2 p3 v1 v2 b f k c1 c2 htake =>
          split
          next hframe =>
            have hlength : reportLength c = 12 := if_pos hc
            obtain ⟨rfl, rfl, -⟩ : a = a' ∧ kind = kind' ∧ _ := by simpa using htake
            refine .inl ⟨⟨a, kind, (p1, p2, p3), (v1, v2), b, f, some k⟩, ?_, rfl⟩
            rw [← hlength] at htake hframe
            exact ReportBytes.answers_of_take htake rfl hframe hkind (by simp [hc])
          next => exact .inr (.inr rfl)
        next => exact .inr (.inr rfl)
      next hc =>
        split
        next a' kind' p1 p2 p3 v1 v2 b f c1 c2 htake =>
          split
          next hframe =>
            have hlength : reportLength c = 11 := if_neg hc
            obtain ⟨rfl, rfl, -⟩ : a = a' ∧ kind = kind' ∧ _ := by simpa using htake
            refine .inl ⟨⟨a, kind, (p1, p2, p3), (v1, v2), b, f, none⟩, ?_, rfl⟩
            rw [← hlength] at htake hframe
            exact ReportBytes.answers_of_take htake rfl hframe hkind (by simp [hc])
          next => exact .inr (.inr rfl)
        next => exact .inr (.inr rfl)
    next =>
      split
      next hkind =>
        split
        next hframe =>
          obtain ⟨hlength, hcrc, rfl⟩ := hframe
          obtain rfl : kind = 0x12#8 := BitVec.eq_of_toNat_eq hkind
          refine .inr (.inl ⟨?_, rfl⟩)
          rw [busyFrame_toNat, ← (crcMatches_append_iff (by simpa using hlength)).1 hcrc]
          rfl
        next => exact .inr (.inr rfl)
      next => exact .inr (.inr rfl)

theorem ReportBytes.read_ne_busy (now : Time) (x : ReportBytes) : x.read now ≠ .busy := by
  unfold ReportBytes.read readReport
  split
  · dsimp only
    split
    · nofun
    · split <;> nofun
  · nofun

end Sys2Proof.Machine

section

open Sys2Proof Sys2Proof.Machine

/-- Settles O4: what is sent and what is read are the same fields, number by number, and an answer is a REPORT, a BUSY or failed. -/
theorem fieldAnswersReadAsSent : Obligations.FieldAnswersReadAsSent := by
  intro now address c hlow hhigh
  have ha : address < 256 := by omega
  refine ⟨fun seq r tail hp hv hv' hf hc hnow => ?_, fun tail => ?_, fun bytes seq r h => ?_, fun bytes h => ?_⟩
  · obtain ⟨x, hx⟩ := ReportBytes.exists_fields_eq address seq r
    obtain ⟨rfl, hkind, hread⟩ := (ReportBytes.sent_iff_read ha).1 ⟨hx, ⟨hp, hv, hv', hf⟩, hnow.symm⟩
    rw [reportFrame_eq, ← hx, readAnswer_reportBytes hkind (ReportBytes.isSome_of_read hread ▸ hc), hread]
  · obtain ⟨a, rfl⟩ : ∃ a : Byte, a.toNat = address := ⟨BitVec.ofNat 8 address, by simpa using ha⟩
    exact readAnswer_busyFrame now a c tail
  · obtain ⟨x, hanswers, hread⟩ | ⟨-, hbusy⟩ | hfailed := readAnswer_cases now address c bytes
    · have hread := hread.symm.trans h
      obtain ⟨hx, hrange, hnow⟩ := (ReportBytes.sent_iff_read ha).2 ⟨hanswers.address, hanswers.kind, hread⟩
      exact ⟨by rw [reportFrame_eq, ← hx]; exact hanswers.take, hnow.symm,
        ReportBytes.isSome_of_read hread ▸ hanswers.capability, hrange.position⟩
    · cases hbusy.symm.trans h
    · cases hfailed.symm.trans h
  · obtain ⟨x, -, hread⟩ | ⟨htake, -⟩ | hfailed := readAnswer_cases now address c bytes
    · exact absurd (hread.symm.trans h) (x.read_ne_busy now)
    · exact htake
    · cases hfailed.symm.trans h

end
end

section
/-!
The field line (R134 to R138, R148 to R150). First what each operation does to the line, which only the Field Link Master's own
events touch, and from it when the driver is enabled; then how the next station and its command are chosen, and the starts and ends
of frames.
-/

namespace Sys2Proof.Machine

open Sys2Proof

/-! ### What leaves the field line as it is -/

theorem State.foldl_line {α : Type} {f : State → α → State} (hf : ∀ s x, (f s x).link.line = s.link.line) (xs : List α)
    (s : State) : (xs.foldl f s).link.line = s.link.line := by
  induction xs generalizing s with
  | nil => rfl
  | cons x xs ih => exact (ih _).trans (hf s x)

section

variable (s : State)

@[simp] theorem State.modLink_line (a : StationNo) (f : Link → Link) : (s.modLink a f).link.line = s.link.line := rfl

@[simp] theorem State.clearMark_line (m : MoverNo) : (s.clearMark m).link.line = s.link.line := rfl

@[simp] theorem State.modServiceOf_line (m : MoverNo) (f : Station → Station) (g : Link → Link) :
    (s.modServiceOf m f g).link.line = s.link.line := by
  rw [State.modServiceOf]

@[simp] theorem State.endLine_line : s.endLine.link.line = .idle := rfl

/-! Entries to the mover states and the Arbiter -/

theorem admitFrom_line (queue : List QueueEntry) (s : State) : (admitFrom queue s).link.line = s.link.line := by
  induction queue generalizing s with
  | nil => rfl
  | cons e rest ih =>
    unfold admitFrom
    split
    · rw [ih, State.enterStarting_link]
    · rfl

@[simp] theorem State.admitQueue_line : s.admitQueue.link.line = s.link.line := admitFrom_line _ s

@[simp] theorem State.leaveCounting_line : s.leaveCounting.link.line = s.link.line := State.admitQueue_line _

@[simp] theorem State.departed_line (m : MoverNo) (old : MState) : (s.departed m old).link.line = s.link.line := by
  rcases s.departed_cases m old with ⟨-, h⟩ | ⟨-, h⟩ | ⟨-, -, h⟩ <;> simp [h]

@[simp] theorem State.enterFaulted_line (m : MoverNo) (code : FaultCode) :
    (s.enterFaulted m code).link.line = s.link.line := by
  rcases s.enterFaulted_cases m code with ⟨-, h⟩ | ⟨-, h⟩ <;> simp [h]

@[simp] theorem State.enterBraking_line (m : MoverNo) : (s.enterBraking m).link.line = s.link.line := by
  simp [State.enterBraking]

@[simp] theorem State.enterStopping_line (m : MoverNo) (reason : StopReason) :
    (s.enterStopping m reason).link.line = s.link.line := by
  rcases s.enterStopping_cases m reason with ⟨-, h⟩ | ⟨-, h⟩ <;> simp [h]

@[simp] theorem State.requestAdmission_line (m : MoverNo) : (s.requestAdmission m).link.line = s.link.line := by
  rcases s.requestAdmission_cases m with ⟨-, -, h⟩ | ⟨-, h⟩ <;> simp [h]

@[simp] theorem State.endStop_line (m : MoverNo) : (s.endStop m).link.line = s.link.line := by
  simp [State.endStop]

@[simp] theorem State.parkWith_line (m : MoverNo) (reason : StopReason) :
    (s.parkWith m reason).link.line = s.link.line := by
  simp [State.parkWith]

@[simp] theorem State.stopMover_line (m : MoverNo) : (s.stopMover m).link.line = s.link.line := by
  unfold State.stopMover
  split <;> simp

@[simp] theorem State.stormReact_line (m : MoverNo) : (s.stormReact m).link.line = s.link.line := by
  unfold State.stormReact
  split
  · split <;> simp
  · rfl

/-! The proving sweep, and with it the entry to LOCKED_OUT -/

@[simp] theorem State.evaluate_line (k : TrackNo) (t : Track) (p : Nat) (g : Seg) :
    (s.evaluate k t p g).link.line = s.link.line := by
  unfold State.evaluate
  dsimp only
  split <;> rfl

@[simp] theorem State.completePending_line (q : PendingStep) : (s.completePending q).link.line = s.link.line := by
  unfold State.completePending
  split
  · split
    · split <;> simp
    · simp
  · simp

@[simp] theorem State.noticeEnded_line (a : StationNo) : (s.noticeEnded a).link.line = s.link.line := by
  unfold State.noticeEnded
  split
  · split <;> simp
  · rfl

@[simp] theorem State.giveNotices_line (dropped : List StationNo) : (s.giveNotices dropped).link.line = s.link.line :=
  State.foldl_line State.noticeEnded_line dropped s

@[simp] theorem State.beginStep_line : s.beginStep.link.line = s.link.line := by
  unfold State.beginStep
  split
  · simp
  · split
    · simp
    · split <;> simp

@[simp] theorem State.provingExpiry_line : s.provingExpiry.link.line = s.link.line := by
  unfold State.provingExpiry
  split
  · dsimp only
    split <;> simp
  · rfl

@[simp] theorem State.enterLockedOut_line (m : MoverNo) (result : Option EnrolResult) :
    (s.enterLockedOut m result).link.line = s.link.line := by
  simp [State.enterLockedOut]

@[simp] theorem State.lockOut_line (m : MoverNo) (result : Option EnrolResult) :
    (s.lockOut m result).link.line = s.link.line := by
  simp [State.lockOut]

@[simp] theorem State.blockRun_line (m : MoverNo) : (s.blockRun m).link.line = s.link.line := by
  unfold State.blockRun
  split <;> simp

@[simp] theorem State.lockRun_line (m : MoverNo) : (s.lockRun m).link.line = s.link.line := by
  simp [State.lockRun]

@[simp] theorem State.stationFailure_line (m : MoverNo) (code : FaultCode) :
    (s.stationFailure m code).link.line = s.link.line := by
  unfold State.stationFailure
  split <;> simp

/-! Reports (R130) -/

@[simp] theorem State.takeFootprint_line (m : MoverNo) : (s.takeFootprint m).2.link.line = s.link.line := by
  unfold State.takeFootprint
  split
  · split <;> simp
  · rfl

@[simp] theorem State.completeEnrol_line (m : MoverNo) : (s.completeEnrol m).link.line = s.link.line := by
  have htake := s.takeFootprint_line m
  unfold State.completeEnrol
  split
  · simp
  · split
    · simp
    · split
      next heq =>
        rw [heq] at htake
        simpa using htake
      · simp

@[simp] theorem State.fileReference_line (m : MoverNo) (offset : Int) (r : Report) :
    (s.fileReference m offset r).link.line = s.link.line := by
  unfold State.fileReference
  split <;> simp

/-- What a report from the LEAD writes first. -/
theorem State.leadReference_line (role : Role) (m : MoverNo) (offset : Int) (r : Report) :
    (if role = .lead then s.fileReference m offset r else s).link.line = s.link.line := by
  split <;> simp

@[simp] theorem State.joinProgress_line (m : MoverNo) (a : StationNo) : (s.joinProgress m a).link.line = s.link.line := by
  simp [State.joinProgress]

@[simp] theorem State.reportEnrolling_line (m : MoverNo) (a : StationNo) (x : Assignment) (ident : Bool) (r : Report) :
    (s.reportEnrolling m a x ident r).link.line = s.link.line := by
  have hlead := s.leadReference_line x.role m x.offset r
  unfold State.reportEnrolling
  split
  · simp
  · split
    · simp
    · generalize (if x.role = .lead then s.fileReference m x.offset r else s) = s1 at hlead ⊢
      dsimp only
      split
      · split <;> simp [hlead]
      · exact hlead

@[simp] theorem State.lawOutput_line (m : MoverNo) (c : MoverConfig) (speed : Nat) :
    (s.lawOutput m c speed).link.line = s.link.line := by
  simp [State.lawOutput]

@[simp] theorem State.dwellTest_line (m : MoverNo) (c : MoverConfig) (dAuth dTgt : Nat) (speed : Int) :
    (s.dwellTest m c dAuth dTgt speed).link.line = s.link.line := by
  simp [State.dwellTest]

@[simp] theorem State.enterMoving_line (m : MoverNo) : (s.enterMoving m).link.line = s.link.line := by
  unfold State.enterMoving
  split
  · rfl
  · split <;> simp

@[simp] theorem State.reportStarting_line (m : MoverNo) (a : StationNo) (r : Report) :
    (s.reportStarting m a r).link.line = s.link.line := by
  unfold State.reportStarting
  split
  · dsimp only
    split <;> simp
  · rfl

@[simp] theorem State.leadMoving_line (m : MoverNo) (r : Report) : (s.leadMoving m r).link.line = s.link.line := by
  unfold State.leadMoving
  split
  · rfl
  · split
    · simp
    · dsimp only
      split <;> simp

@[simp] theorem State.stopProgress_line (m : MoverNo) (a : StationNo) (role : Role) (r : Report) :
    (s.stopProgress m a role r).link.line = s.link.line := by
  unfold State.stopProgress
  split
  · split
    · dsimp only
      split <;> simp
    · rfl
  · split <;> simp

@[simp] theorem State.reportStopping_line (m : MoverNo) (a : StationNo) (role : Role) (r : Report) :
    (s.reportStopping m a role r).link.line = s.link.line := by
  unfold State.reportStopping
  split <;> simp

@[simp] theorem State.reportHeld_line (m : MoverNo) (role : Role) : (s.reportHeld m role).link.line = s.link.line := by
  unfold State.reportHeld
  split <;> simp

@[simp] theorem State.writeTrim_line (m : MoverNo) (a : StationNo) (c : MoverConfig) (trim : Int) :
    (s.writeTrim m a c trim).link.line = s.link.line := rfl

@[simp] theorem State.skewTrim_line (m : MoverNo) (a : StationNo) (offset : Int) (r : Report) :
    (s.skewTrim m a offset r).link.line = s.link.line := by
  unfold State.skewTrim
  split
  · split <;> simp
  · rfl

@[simp] theorem State.reportByState_line (m : MoverNo) (a : StationNo) (role : Role) (r : Report) :
    (s.reportByState m a role r).link.line = s.link.line := by
  unfold State.reportByState
  split
  · simp
  · split <;> simp
  · simp
  · simp
  · rfl

@[simp] theorem State.reportInService_line (m : MoverNo) (a : StationNo) (x : Assignment) (r : Report) :
    (s.reportInService m a x r).link.line = s.link.line := by
  have hlead := s.leadReference_line x.role m x.offset r
  unfold State.reportInService
  generalize (if x.role = .lead then s.fileReference m x.offset r else s) = s1 at hlead ⊢
  dsimp only
  split
  · exact hlead
  · split
    · simp [hlead]
    · split <;> simp [hlead]

@[simp] theorem State.passReport_line (a : StationNo) (ident : Bool) (r : Report) :
    (s.passReport a ident r).link.line = s.link.line := by
  unfold State.passReport
  split
  · rfl
  · split <;> simp

@[simp] theorem State.fileReport_line (a : StationNo) (ident : Bool) (r : Report) :
    (s.fileReport a ident r).link.line = s.link.line := by
  simp [State.fileReport]

/-! The endings of a transaction (R140 to R145) -/

@[simp] theorem State.tellFailure_line (a : StationNo) (code : FaultCode) :
    (s.tellFailure a code).link.line = s.link.line := by
  unfold State.tellFailure
  split <;> simp

@[simp] theorem State.strikeOut_line (a : StationNo) : (s.strikeOut a).link.line = s.link.line := by
  unfold State.strikeOut
  split <;> simp

@[simp] theorem State.busyHalt_line (a : StationNo) : (s.busyHalt a).link.line = s.link.line := by
  unfold State.busyHalt
  split <;> simp

@[simp] theorem State.setDue_line (a : StationNo) : (s.setDue a).link.line = s.link.line := rfl

@[simp] theorem State.failedAttempt_line (t : Transaction) : (s.failedAttempt t).link.line = s.link.line := by
  unfold State.failedAttempt
  split <;> simp

@[simp] theorem State.busyAnswer_line (a : StationNo) : (s.busyAnswer a).link.line = s.link.line := by
  unfold State.busyAnswer
  dsimp only
  split <;> simp

@[simp] theorem State.success_line (t : Transaction) (r : Report) : (s.success t r).link.line = s.link.line := by
  simp [State.success]

@[simp] theorem State.judge_line (t : Transaction) (e : Ending) : (s.judge t e).link.line = s.link.line := by
  unfold State.judge
  split
  · simp
  · simp
  · split <;> simp

/-- A transaction ends with the line idle, however it is judged (R135). -/
@[simp] theorem State.endTransaction_line (t : Transaction) (e : Ending) : (s.endTransaction t e).link.line = .idle := by
  unfold State.endTransaction
  dsimp only
  split
  · split <;> simp
  · rfl

/-! Timers, notices and samples -/

@[simp] theorem State.modSegAt_line (index : Nat) (f : Seg → Seg) : (s.modSegAt index f).link.line = s.link.line := by
  unfold State.modSegAt
  split <;> simp

@[simp] theorem State.takeConsistent_line (index : Nat) : (s.takeConsistent index).link.line = s.link.line := by
  unfold State.takeConsistent
  split
  · dsimp only
    split <;> simp
  · rfl

@[simp] theorem State.takeInconsistent_line (index : Nat) : (s.takeInconsistent index).link.line = s.link.line := by
  unfold State.takeInconsistent
  split
  · dsimp only
    split <;> simp
  · rfl

@[simp] theorem State.takeTrailing_line (index : Nat) : (s.takeTrailing index).link.line = s.link.line := by
  unfold State.takeTrailing
  split
  · dsimp only
    split <;> simp
  · rfl

theorem State.onExpiry_line (m : MoverNo) (runsIn : MState) (timer : Option Time) {f : State → State}
    (hf : (f s).link.line = s.link.line) : (s.onExpiry m runsIn timer f).link.line = s.link.line := by
  rcases s.onExpiry_cases m runsIn timer f with ⟨-, -, h⟩ | ⟨-, h⟩ <;> simp [h, hf]

@[simp] theorem State.takeIntrusion_line (m : MoverNo) : (s.takeIntrusion m).link.line = s.link.line := by
  unfold State.takeIntrusion
  split <;> simp

@[simp] theorem State.openMover_line (m : MoverNo) : (s.openMover m).link.line = s.link.line := by
  unfold State.openMover
  split <;> simp

@[simp] theorem State.takeOpeningMovers_line : s.takeOpeningMovers.link.line = s.link.line := by
  unfold State.takeOpeningMovers
  split
  · rfl
  · simp [State.openMovers, State.foldl_line State.openMover_line]

@[simp] theorem State.takeOpeningFieldLink_line : s.takeOpeningFieldLink.link.line = s.link.line := by
  unfold State.takeOpeningFieldLink
  split <;> rfl

@[simp] theorem State.classNotice_line (ch : ChannelNo) : (s.classNotice ch).link.line = s.link.line := by
  unfold State.classNotice
  refine State.foldl_line (fun s m => ?_) _ s
  split <;> simp

@[simp] theorem State.windSample_line (ch : ChannelNo) (statusHigh : Bool) :
    (s.windSample ch statusHigh).link.line = s.link.line := by
  unfold State.windSample
  dsimp only
  split
  · split <;> simp
  · rfl

@[simp] theorem State.rainOn_line : s.rainOn.link.line = s.link.line := by
  unfold State.rainOn
  split <;> simp

@[simp] theorem State.rainOff_line : s.rainOff.link.line = s.link.line := by
  unfold State.rainOff
  split <;> simp

@[simp] theorem State.chainOpens_line : s.chainOpens.link.line = s.link.line := by
  unfold State.chainOpens
  split <;> simp

@[simp] theorem State.chainCloses_line : s.chainCloses.link.line = s.link.line := by
  unfold State.chainCloses
  split <;> simp

@[simp] theorem State.resetReleased_line : s.resetReleased.link.line = s.link.line := by
  unfold State.resetReleased
  split <;> rfl

/-! Requests, and the port that takes them -/

@[simp] theorem State.allocateTrack_line (k : TrackNo) (start : Nat) (lengths : List Nat) :
    (s.allocateTrack k start lengths).link.line = s.link.line := by
  unfold State.allocateTrack
  dsimp only
  split <;> simp

@[simp] theorem State.defineTrack_line (track start count : Nat) (lengths : List Nat) :
    (s.defineTrack track start count lengths).link.line = s.link.line := by
  unfold State.defineTrack
  split
  · simp
  · split
    · simp
    · simp
    · split <;> simp

@[simp] theorem State.removeTrack_line (track : Nat) : (s.removeTrack track).link.line = s.link.line := by
  unfold State.removeTrack
  split
  · simp
  · split
    · simp
    · split <;> simp

@[simp] theorem State.queryTrack_line (track : Nat) : (s.queryTrack track).link.line = s.link.line := by
  unfold State.queryTrack
  split <;> simp

@[simp] theorem State.blockSegment_line (index : Nat) : (s.blockSegment index).link.line = s.link.line := by
  unfold State.blockSegment
  split
  · simp
  · split
    · simp
    · split <;> simp

@[simp] theorem State.unblockSegment_line (index : Nat) : (s.unblockSegment index).link.line = s.link.line := by
  unfold State.unblockSegment
  split
  · simp
  · split <;> simp

@[simp] theorem State.querySegment_line (index : Nat) : (s.querySegment index).link.line = s.link.line := by
  unfold State.querySegment
  split <;> simp

@[simp] theorem State.reserve_line (mover endCode count : Nat) :
    (s.reserve mover endCode count).link.line = s.link.line := by
  unfold State.reserve
  split
  · simp
  · split <;> simp

@[simp] theorem State.release_line (mover endCode count : Nat) :
    (s.release mover endCode count).link.line = s.link.line := by
  unfold State.release
  split
  · simp
  · split
    · simp
    · split <;> simp

@[simp] theorem State.configureMover_line (mover : Nat) (raw : RawConfig) :
    (s.configureMover mover raw).link.line = s.link.line := by
  unfold State.configureMover
  split
  · simp
  · split
    · simp
    · split <;> simp

@[simp] theorem State.unlock_line (mover : Nat) : (s.unlock mover).link.line = s.link.line := by
  unfold State.unlock
  split
  · simp
  · split <;> simp [State.enterEnrolling]

@[simp] theorem State.lock_line (mover : Nat) : (s.lock mover).link.line = s.link.line := by
  unfold State.lock
  split
  · simp
  · split <;> simp

@[simp] theorem State.moveByState_line (m : MoverNo) (target profile : Nat) :
    (s.moveByState m target profile).link.line = s.link.line := by
  unfold State.moveByState
  dsimp only
  split
  any_goals split
  all_goals simp

@[simp] theorem State.move_line (mover target profile : Nat) : (s.move mover target profile).link.line = s.link.line := by
  unfold State.move
  split
  · simp
  · split
    · simp
    · split
      · split <;> simp
      · simp

@[simp] theorem State.stop_line (mover : Nat) : (s.stop mover).link.line = s.link.line := by
  unfold State.stop
  split <;> simp

@[simp] theorem State.stopAll_line : s.stopAll.link.line = s.link.line := by
  simp [State.stopAll, State.stopEvery, State.foldl_line State.stopMover_line]

@[simp] theorem State.resetFault_line (mover : Nat) : (s.resetFault mover).link.line = s.link.line := by
  unfold State.resetFault
  split
  · simp
  · split <;> simp [State.clearFault]

@[simp] theorem State.queryMover_line (mover : Nat) : (s.queryMover mover).link.line = s.link.line := by
  unfold State.queryMover
  split <;> simp

@[simp] theorem State.assignStation_line (address mover role : Nat) (offset : Int) (poll busyExp : Nat) :
    (s.assignStation address mover role offset poll busyExp).link.line = s.link.line := by
  unfold State.assignStation
  split
  · simp
  · split <;> simp [State.changeAssignment]

@[simp] theorem State.unassignStation_line (address : Nat) : (s.unassignStation address).link.line = s.link.line := by
  unfold State.unassignStation
  split
  · simp
  · split
    · simp
    · split <;> simp [State.changeAssignment]

@[simp] theorem State.queryStation_line (address view : Nat) : (s.queryStation address view).link.line = s.link.line := by
  unfold State.queryStation
  split <;> simp

@[simp] theorem State.setAdmission_line (limit : Nat) : (s.setAdmission limit).link.line = s.link.line := by
  unfold State.setAdmission
  dsimp only
  split
  · simp
  · split
    · simp
    · split <;> simp

@[simp] theorem State.setWind_line (w : WindSettings) : (s.setWind w).link.line = s.link.line := by
  unfold State.setWind
  split <;> simp

/-- No request is served by the Field Link Master. -/
@[simp] theorem State.serve_line (i : Instr) : (s.serve i).link.line = s.link.line := by
  unfold State.serve
  split
  all_goals simp [State.queryQueue, State.setProving, State.queryProving, State.queryWind, State.queryAlerts,
    State.ackAlerts, State.acknowledge]

@[simp] theorem State.actOn_line (f : Frame) : (s.actOn f).link.line = s.link.line := by
  unfold State.actOn
  split <;> simp

@[simp] theorem State.takeNext_line : s.takeNext.link.line = s.link.line := by
  unfold State.takeNext
  split <;> simp

@[simp] theorem State.frameEnded_line (bytes : List Byte) (spoiled : Bool) :
    (s.frameEnded bytes spoiled).link.line = s.link.line := by
  rcases s.frameEnded_cases bytes spoiled with ⟨-, h⟩ | ⟨f, -, -, h⟩ <;> simp [h]

@[simp] theorem State.receiveByte_line (b : LineByte) : (s.receiveByte b).link.line = s.link.line := by
  unfold State.receiveByte
  dsimp only
  split <;> simp

@[simp] theorem State.receive_line (line : List LineByte) : (s.receive line).link.line = s.link.line :=
  State.foldl_line State.receiveByte_line line s

@[simp] theorem State.answerSent_line : s.answerSent.link.line = s.link.line := by
  unfold State.answerSent
  split <;> simp

end

/-! ### The driver enable (section 11.8) -/

theorem State.driverEnable_iff {s : State} :
    s.driverEnable = true ↔ ∃ bytes, s.link.line = .command bytes ∨ s.link.line = .broadcast bytes := by
  unfold State.driverEnable
  split
  next h => simp [h]
  next h => simp [h]
  next h => simp [h]
  next h => simp [h]

theorem State.driverEnable_of_line {s t : State} (h : t.link.line = s.link.line) : t.driverEnable = s.driverEnable := by
  rw [State.driverEnable, State.driverEnable, h]

/-- An ending leaves the driver as it was: the line was a window and is idle (R135). -/
theorem State.endWith_driverEnable (s : State) (ending : Transaction → Ending) :
    (s.endWith ending).driverEnable = s.driverEnable := by
  unfold State.endWith
  split
  next t hwindow _ => simp [State.driverEnable, hwindow]
  · rfl

section

variable {s t : State} {f : State → State}

/-- An event that leaves the driver as it is does so too where a held reset lets nothing happen. -/
theorem State.whileRunning_driverEnable (ht : s.whileRunning f = .next t) (hf : (f s).driverEnable = s.driverEnable) :
    t.driverEnable = s.driverEnable := by
  by_cases hreset : s.resetLow = true
  · rw [State.whileRunning_held hreset] at ht
    cases ht
    rfl
  · rw [State.whileRunning_running (by simpa using hreset)] at ht
    cases ht
    exact hf

theorem State.whileRunning_keepsLine (ht : s.whileRunning f = .next t) (hf : (f s).link.line = s.link.line) :
    t.driverEnable = s.driverEnable :=
  State.whileRunning_driverEnable ht (State.driverEnable_of_line hf)

theorem State.transactionStart_busy (h : s.driverEnable = true) : s.transactionStart = s := by
  refine if_neg fun hidle => ?_
  obtain ⟨bytes, hline⟩ := State.driverEnable_iff.1 h
  simp [hidle.1] at hline

theorem State.broadcastStart_busy (h : s.driverEnable = true) : s.broadcastStart = s := by
  refine if_neg fun hidle => ?_
  obtain ⟨bytes, hline⟩ := State.driverEnable_iff.1 h
  simp [hidle.2] at hline

theorem State.commandFrameEnd_other (h : ∀ bytes, s.link.line ≠ .command bytes) : s.commandFrameEnd = s := by
  unfold State.commandFrameEnd
  split
  next bytes hline => exact absurd hline (h bytes)
  · rfl

theorem State.broadcastEnd_other (h : ∀ bytes, s.link.line ≠ .broadcast bytes) : s.broadcastEnd = s := by
  unfold State.broadcastEnd
  split
  next bytes hline => exact absurd hline (h bytes)
  · rfl

theorem State.commandFrameEnd_quiet (h : s.driverEnable = false) : s.commandFrameEnd = s :=
  State.commandFrameEnd_other fun _ hline => Bool.eq_false_iff.1 h (State.driverEnable_iff.2 ⟨_, .inl hline⟩)

theorem State.broadcastEnd_quiet (h : s.driverEnable = false) : s.broadcastEnd = s :=
  State.broadcastEnd_other fun _ hline => Bool.eq_false_iff.1 h (State.driverEnable_iff.2 ⟨_, .inr hline⟩)

/-- Every command but the two starts, the two ends of frames and FULL_RESET leaves the driver as it is. -/
theorem exec_driverEnable {c : Instr} (ht : exec c s = .next t)
    (hc : c ∉ [Instr.transactionStart, .broadcastHoldStart, .commandFrameEnd, .broadcastHoldEnd, .fullReset]) :
    t.driverEnable = s.driverEnable := by
  have hrequest (hc : exec c s = s.whileRunning fun s => s.serve c) : t.driverEnable = s.driverEnable :=
    State.whileRunning_keepsLine (hc.symm.trans ht) (s.serve_line c)
  cases c with
  | fullReset | transactionStart | broadcastHoldStart | commandFrameEnd | broadcastHoldEnd => simp at hc
  | resetInputReleased =>
    cases ht
    exact State.driverEnable_of_line s.resetReleased_line
  | rainInputChange | estopInputChange =>
    cases ht
    rfl
  | frameReceived | frameLengthDrop => exact State.whileRunning_keepsLine (f := fun s => s.receive _) ht (s.receive_line _)
  | frameGapTimeout => exact State.whileRunning_keepsLine ht rfl
  | answerSent => exact State.whileRunning_keepsLine ht s.answerSent_line
  | openingNoticeFieldLink => exact State.whileRunning_keepsLine ht s.takeOpeningFieldLink_line
  | fieldAnswerReceived | answerBreak | answerWindowClosed =>
    exact State.whileRunning_driverEnable (f := fun s => s.endWith _) ht (s.endWith_driverEnable _)
  | provingTimerExpiry => exact State.whileRunning_keepsLine ht s.provingExpiry_line
  | consistentFinding => exact State.whileRunning_keepsLine (f := fun s => s.takeConsistent _) ht (s.takeConsistent_line _)
  | inconsistentFinding => exact State.whileRunning_keepsLine (f := fun s => s.takeInconsistent _) ht (s.takeInconsistent_line _)
  | trailingRelease => exact State.whileRunning_keepsLine (f := fun s => s.takeTrailing _) ht (s.takeTrailing_line _)
  | intrusionNotice => exact State.whileRunning_keepsLine (f := fun s => s.takeIntrusion _) ht (s.takeIntrusion_line _)
  | enrolTimerExpiry m =>
    exact State.whileRunning_keepsLine (f := fun s => s.onExpiry m _ _ _) ht (s.onExpiry_line m _ _ (s.lockOut_line m _))
  | startTimerExpiry m | permitTimerExpiry m | stopTimerExpiry m =>
    exact State.whileRunning_keepsLine (f := fun s => s.onExpiry m _ _ _) ht (s.onExpiry_line m _ _ (s.enterFaulted_line m _))
  | dwellTimerExpiry m =>
    exact State.whileRunning_keepsLine (f := fun s => s.onExpiry m _ _ _) ht (s.onExpiry_line m _ _ (s.enterStopping_line m _))
  | anemometerPulse => exact State.whileRunning_keepsLine (f := fun s => s.modChannel _ _) ht rfl
  | windSample => exact State.whileRunning_keepsLine (f := fun s => s.windSample _ _) ht (s.windSample_line _ _)
  | rainOnExpiry => exact State.whileRunning_keepsLine ht s.rainOn_line
  | rainOffExpiry => exact State.whileRunning_keepsLine ht s.rainOff_line
  | chainOpen => exact State.whileRunning_keepsLine ht s.chainOpens_line
  | chainClosed => exact State.whileRunning_keepsLine ht s.chainCloses_line
  | openingNoticeMovers => exact State.whileRunning_keepsLine ht s.takeOpeningMovers_line
  | _ => exact hrequest rfl

/-- The driver is enabled by a start alone: an end of a frame finds it enabled, and FULL_RESET leaves it disabled. -/
theorem exec_enables_driver {c : Instr} (ht : exec c s = .next t) (hs : s.driverEnable = false)
    (ht' : t.driverEnable = true) : c = .transactionStart ∨ c = .broadcastHoldStart := by
  by_contra hc
  obtain ⟨hstart, hbroadcast⟩ := not_or.1 hc
  have hkept : t.driverEnable = s.driverEnable := by
    cases c with
    | transactionStart => exact absurd rfl hstart
    | broadcastHoldStart => exact absurd rfl hbroadcast
    | commandFrameEnd => exact State.whileRunning_driverEnable ht (by rw [State.commandFrameEnd_quiet hs])
    | broadcastHoldEnd => exact State.whileRunning_driverEnable ht (by rw [State.broadcastEnd_quiet hs])
    | fullReset =>
      cases ht
      exact hs.symm
    | _ => exact exec_driverEnable ht (by simp)
  rw [hkept, hs] at ht'
  cases ht'

/-- The driver is disabled by the end of a frame or FULL_RESET alone: a start does nothing where it is enabled. -/
theorem exec_disables_driver {c : Instr} (ht : exec c s = .next t) (hs : s.driverEnable = true)
    (ht' : t.driverEnable = false) : c = .commandFrameEnd ∨ c = .broadcastHoldEnd ∨ c = .fullReset := by
  by_contra hc
  obtain ⟨hend, hc⟩ := not_or.1 hc
  obtain ⟨hbroadcast, hreset⟩ := not_or.1 hc
  have hkept : t.driverEnable = s.driverEnable := by
    cases c with
    | commandFrameEnd => exact absurd rfl hend
    | broadcastHoldEnd => exact absurd rfl hbroadcast
    | fullReset => exact absurd rfl hreset
    | transactionStart => exact State.whileRunning_driverEnable ht (by rw [State.transactionStart_busy hs])
    | broadcastHoldStart => exact State.whileRunning_driverEnable ht (by rw [State.broadcastStart_busy hs])
    | _ => exact exec_driverEnable ht (by simp)
  rw [hkept, hs] at ht'
  cases ht'

end

/-! ### Choosing a station (R148) -/

/-- The row a search in address order finds is the lowest one that passes. -/
theorem find?_finRange_eq_some_iff {n : Nat} {p : Fin n → Bool} {a : Fin n} :
    (List.finRange n).find? p = some a ↔ p a = true ∧ ∀ b, b < a → ¬ p b = true := by
  rw [← Fin.find?_eq_find?_finRange, Fin.find?_eq_some_iff]
  simp

theorem find?_finRange_eq_none_iff {n : Nat} {p : Fin n → Bool} :
    (List.finRange n).find? p = none ↔ ∀ b, ¬ p b = true := by
  simp

/-- Station a has a priority request that may be served. -/
def State.RankTwo (s : State) (a : StationNo) : Prop :=
  (s.station a).state ≠ .dormant ∧ (s.linkOf a).priority = true

/-- Station a is ACTIVE with an urgent HOLD standing. -/
def State.RankThree (s : State) (a : StationNo) : Prop :=
  (s.station a).state = .active ∧ (s.station a).standing = some .hold ∧ (s.station a).urgent = true

/-- Station a has been due for d milliseconds (R145). -/
def State.DueFor (s : State) (a : StationNo) (d : Nat) : Prop :=
  (s.station a).state ≠ .dormant ∧ ∃ e, (s.linkOf a).due = some e ∧ reached s.now e = true ∧ d = (s.now - e).toNat

/-- Station a has been due for d milliseconds, and none in the list has been due longer, or as long at a lower address. -/
def State.DueFirst (s : State) (a : StationNo) (d : Nat) (among : List StationNo) : Prop :=
  s.DueFor a d ∧ ∀ b ∈ among, ∀ d', s.DueFor b d' → d' < d ∨ (d' = d ∧ a ≤ b)

section

variable {s : State} {a : StationNo}

theorem State.rankTwo_eq_some_iff : s.rankTwo = some a ↔ s.RankTwo a ∧ ∀ b, b < a → ¬ s.RankTwo b := by
  rw [State.rankTwo, find?_finRange_eq_some_iff]
  simp only [State.polled, Bool.and_eq_true, decide_eq_true_eq, State.RankTwo]

theorem State.rankTwo_eq_none_iff : s.rankTwo = none ↔ ∀ b, ¬ s.RankTwo b := by
  rw [State.rankTwo, find?_finRange_eq_none_iff]
  simp only [State.polled, Bool.and_eq_true, decide_eq_true_eq, State.RankTwo]

theorem State.rankThree_eq_some_iff : s.rankThree = some a ↔ s.RankThree a ∧ ∀ b, b < a → ¬ s.RankThree b := by
  rw [State.rankThree, find?_finRange_eq_some_iff]
  simp only [Bool.and_eq_true, decide_eq_true_eq, and_assoc, State.RankThree]

theorem State.rankThree_eq_none_iff : s.rankThree = none ↔ ∀ b, ¬ s.RankThree b := by
  rw [State.rankThree, find?_finRange_eq_none_iff]
  simp only [Bool.and_eq_true, decide_eq_true_eq, and_assoc, State.RankThree]

theorem State.overdue_eq_some_iff {d : Nat} : s.overdue a = some d ↔ s.DueFor a d := by
  unfold State.overdue State.DueFor
  split
  next e he =>
    rw [Option.ite_none_right_eq_some, Bool.and_eq_true, State.polled, decide_eq_true_eq, and_assoc]
    refine and_congr_right' ⟨fun ⟨hreached, hd⟩ => ⟨e, he, hreached, (Option.some.inj hd).symm⟩, ?_⟩
    rintro ⟨e', he', hreached, hd⟩
    obtain rfl := Option.some.inj (he.symm.trans he')
    exact ⟨hreached, congrArg some hd.symm⟩
  next he => simp [he]

theorem State.not_dueFor_of_overdue (h : s.overdue a = none) (d : Nat) : ¬ s.DueFor a d := fun hd => by
  rw [State.overdue_eq_some_iff.2 hd] at h
  cases h

theorem State.DueFor.unique {d d' : Nat} (h : s.DueFor a d) (h' : s.DueFor a d') : d' = d :=
  Option.some.inj ((State.overdue_eq_some_iff.2 h').symm.trans (State.overdue_eq_some_iff.2 h))

/-- A due station among none that are due. -/
theorem State.DueFor.dueFirst_cons {d : Nat} {rest : List StationNo} (h : s.DueFor a d)
    (hrest : ∀ b ∈ rest, ∀ d', s.DueFor b d' → d' < d ∨ (d' = d ∧ a ≤ b)) : s.DueFirst a d (a :: rest) := by
  refine ⟨h, fun b hb d' hd' => ?_⟩
  obtain rfl | hb := List.mem_cons.1 hb
  · exact .inr ⟨h.unique hd', le_rfl⟩
  · exact hrest b hb d' hd'

/-- The search in address order finds no one where none is due, and otherwise the one due first. -/
theorem State.earliest_cases (s : State) {among : List StationNo} (h : among.Pairwise (· < ·)) :
    (s.earliest among = none ∧ ∀ b ∈ among, ∀ d, ¬ s.DueFor b d) ∨
      ∃ a d, s.earliest among = some a ∧ s.DueFirst a d among := by
  induction among with
  | nil => exact .inl ⟨rfl, nofun⟩
  | cons a rest ih =>
    obtain ⟨hlow, hrest⟩ := List.pairwise_cons.1 h
    unfold State.earliest
    obtain ⟨hnone, hidle⟩ | ⟨b, d', hb, hdue, hfirst⟩ := ih hrest
    · rw [hnone]
      cases ha : s.overdue a with
      | none =>
        exact .inl ⟨rfl, List.forall_mem_cons.2 ⟨State.not_dueFor_of_overdue ha, hidle⟩⟩
      | some d =>
        exact .inr ⟨a, d, rfl, (State.overdue_eq_some_iff.1 ha).dueFirst_cons fun b hb d' hd' =>
          absurd hd' (hidle b hb d')⟩
    · rw [hb]
      cases ha : s.overdue a with
      | none =>
        exact .inr ⟨b, d', rfl, hdue, List.forall_mem_cons.2
          ⟨fun d hd => absurd hd (State.not_dueFor_of_overdue ha d), hfirst⟩⟩
      | some d =>
        have ha := State.overdue_eq_some_iff.1 ha
        dsimp only
        rw [State.overdue_eq_some_iff.2 hdue]
        dsimp only [Option.getD_some]
        split
        next hlt =>
          exact .inr ⟨b, d', rfl, hdue, List.forall_mem_cons.2 ⟨fun e he => .inl (ha.unique he ▸ hlt), hfirst⟩⟩
        next hge =>
          refine .inr ⟨a, d, rfl, ha.dueFirst_cons fun x hx e he => ?_⟩
          have hle : e ≤ d := by have := hfirst x hx e he; omega
          exact hle.lt_or_eq.imp_right fun heq => ⟨heq, (hlow x hx).le⟩

/-- Of all stations, a has been due longest, and at the lowest address. -/
def State.RankFour (s : State) (a : StationNo) : Prop :=
  ∃ d, s.DueFor a d ∧ ∀ b d', s.DueFor b d' → d' < d ∨ (d' = d ∧ a ≤ b)

theorem State.RankFour.unique {b : StationNo} (ha : s.RankFour a) (hb : s.RankFour b) : a = b := by
  obtain ⟨d, hd, hfirst⟩ := ha
  obtain ⟨d', hd', hfirst'⟩ := hb
  obtain hlt | ⟨heq, hab⟩ := hfirst b d' hd'
  · have := hfirst' a d hd
    omega
  · exact hab.antisymm ((hfirst' a d hd).resolve_left (by omega)).2

theorem State.rankFour_cases (s : State) :
    (s.rankFour = none ∧ ∀ b, ¬ s.RankFour b) ∨ ∃ a, s.rankFour = some a ∧ s.RankFour a := by
  obtain ⟨hnone, hidle⟩ | ⟨a, d, ha, hdue, hfirst⟩ := s.earliest_cases (List.pairwise_lt_finRange 32)
  · exact .inl ⟨hnone, fun b ⟨d, hd, _⟩ => hidle b (List.mem_finRange b) d hd⟩
  · exact .inr ⟨a, ha, d, hdue, fun b => hfirst b (List.mem_finRange b)⟩

theorem State.rankFour_eq_some_iff : s.rankFour = some a ↔ s.RankFour a := by
  obtain ⟨hnone, hidle⟩ | ⟨b, hb, hfirst⟩ := s.rankFour_cases
  · exact iff_of_false (by rw [hnone]; nofun) (hidle a)
  · rw [hb, Option.some_inj]
    exact ⟨fun h => h ▸ hfirst, hfirst.unique⟩

/-- The station whose request is started next (R148). -/
def State.Chosen (s : State) (a : StationNo) : Prop :=
  (s.RankTwo a ∧ ∀ b, b < a → ¬ s.RankTwo b) ∨
  ((∀ b, ¬ s.RankTwo b) ∧ s.RankThree a ∧ ∀ b, b < a → ¬ s.RankThree b) ∨
  ((∀ b, ¬ s.RankTwo b) ∧ (∀ b, ¬ s.RankThree b) ∧ s.RankFour a)

theorem State.chosenStation_eq_some_iff : s.chosenStation = some a ↔ s.Chosen a := by
  rw [State.Chosen, ← State.rankTwo_eq_some_iff, ← State.rankTwo_eq_none_iff, ← State.rankThree_eq_some_iff,
    ← State.rankThree_eq_none_iff, ← State.rankFour_eq_some_iff, State.chosenStation]
  cases s.rankTwo with
  | some b => simp
  | none =>
    cases s.rankThree with
    | some b => simp
    | none => simp

/-- The transaction of station a carries the command with the sequence bit (R149). -/
def State.Carries (s : State) (a : StationNo) (c : Command) (seq : Bool) : Prop :=
  (s.linkOf a).retry = some (c, seq) ∨
  ((s.linkOf a).retry = none ∧ seq = (s.linkOf a).seq ∧
    (((s.station a).state = .lost ∧ c = .ident) ∨ ((s.station a).state = .busyHalted ∧ c = .sample) ∨
      ((s.station a).state = .active ∧ (s.station a).standing = some c)))

theorem State.commandFor_of_carries {c : Command} {seq : Bool} (h : s.Carries a c seq) :
    s.commandFor a = some (c, seq) := by
  unfold State.commandFor
  obtain hretry | ⟨hretry, rfl, ⟨hstate, rfl⟩ | ⟨hstate, rfl⟩ | ⟨hstate, hstanding⟩⟩ := h
  · rw [hretry]
  · rw [hretry, hstate]
  · rw [hretry, hstate]
  · rw [hretry, hstate, hstanding]
    rfl

end

/-! ### The frames on the line (R136, R138) -/

/-- The fields of a command frame. -/
def commandFields (address : Nat) (c : Command) (seq : Bool) : List Byte :=
  let kind := match c with | .sample => 1 | .drive _ _ => 2 | .hold => 3 | .ident => 4
  [BitVec.ofNat 8 address, BitVec.ofNat 8 (kind + if seq = true then 128 else 0)] ++
    toBytes 2 (match c with | .drive v _ => v | _ => 0) ++
    [match c with | .drive _ true => 1#8 | _ => 0#8]

theorem toBytes_one_natCast (n : Nat) : toBytes 1 (n : Int) = [BitVec.ofNat 8 n] := by
  simp [toBytes]

theorem commandBytes_eq (address : Nat) (c : Command) (seq : Bool) :
    commandBytes address c seq = commandFields address c seq := by
  rw [commandBytes, toBytes_one_natCast, toBytes_one_natCast]
  cases c with
  | drive v release => cases release <;> rfl
  | sample | hold | ident => rfl

theorem commandFrame_eq (address : Nat) (c : Command) (seq : Bool) :
    commandFrame address c seq = commandFields address c seq ++ crcBytes (commandFields address c seq) := by
  rw [commandFrame, commandBytes_eq]

theorem broadcastFrame_eq : broadcastFrame = [0#8, 3#8, 0#8, 0#8, 0#8] ++ crcBytes [0#8, 3#8, 0#8, 0#8, 0#8] :=
  commandFrame_eq 0 .hold false

/-! ### The start of a transaction and of a broadcast HOLD (R148 to R150) -/

section

variable {s : State}

/-- A chosen station is sent what it carries, and its frame goes on the line (R135, R147, R149). -/
theorem State.transactionStart_chosen (hidle : s.link.line = .idle) (hflag : s.link.broadcast = false) {a : StationNo}
    {c : Command} {seq : Bool} (ha : s.Chosen a) (hcarries : s.Carries a c seq) :
    s.transactionStart = s.startTransaction a c seq := by
  rw [State.transactionStart, if_pos ⟨hidle, hflag⟩, State.chosenStation_eq_some_iff.2 ha]
  dsimp only
  rw [State.commandFor_of_carries hcarries]

/-- Where line or flag forbid a start, or no request waits, nothing happens (log entry 27). -/
theorem State.transactionStart_waits (h : s.link.line ≠ .idle ∨ s.link.broadcast = true ∨ ∀ a, ¬ s.Chosen a) :
    s.transactionStart = s := by
  rw [State.transactionStart]
  split
  next hfree =>
    obtain ⟨hidle, hflag⟩ := hfree
    cases ha : s.chosenStation with
    | none => rfl
    | some a =>
      obtain hline | hset | hnone := h
      · exact absurd hidle hline
      · rw [hflag] at hset
        cases hset
      · exact absurd (State.chosenStation_eq_some_iff.1 ha) (hnone a)
  · rfl

theorem State.broadcastStart_waits (h : s.link.line ≠ .idle ∨ s.link.broadcast = false) : s.broadcastStart = s := by
  refine if_neg fun ⟨hflag, hidle⟩ => ?_
  obtain hline | hclear := h
  · exact hline hidle
  · rw [hclear] at hflag
    cases hflag

end

end Sys2Proof.Machine

section

open Sys2Proof Sys2Proof.Machine

/-- Settles O50: the driver by what each command does to the line, and each event on the line by whether line, flag and waiting
requests allow it. -/
theorem transactionStarts : Obligations.TransactionStarts := by
  refine ⟨fun _ => State.driverEnable_iff, fun c s t ht => ⟨exec_enables_driver ht, exec_disables_driver ht⟩, ?reset,
    fun s hrunning => ?_⟩
  case reset =>
    intro s t ht
    cases ht
    rfl
  · intro serviced second third waits chosen carries fields
    have hexec {c : Instr} {f : State → State} (hc : exec c s = s.whileRunning f) : exec c s = .next (f s) :=
      hc.trans (State.whileRunning_running hrunning f)
    rw [hexec (c := .transactionStart) rfl, hexec (c := .commandFrameEnd) rfl, hexec (c := .broadcastHoldStart) rfl,
      hexec (c := .broadcastHoldEnd) rfl]
    refine ⟨fun hidle hflag a c seq ha hcarries => ?start, fun h => congrArg _ (State.transactionStart_waits h),
      fun bytes hline => ?frameEnd, fun h => congrArg _ (State.commandFrameEnd_other h), fun hidle hflag => ?broadcast,
      fun h => congrArg _ (State.broadcastStart_waits h), fun bytes hline => ?broadcastEnd,
      fun h => congrArg _ (State.broadcastEnd_other h)⟩
    case start =>
      rw [State.transactionStart_chosen hidle hflag ha hcarries, State.startTransaction, commandFrame_eq]
      rfl
    case frameEnd => rw [State.commandFrameEnd, hline]
    case broadcast => rw [State.broadcastStart, if_pos ⟨hflag, hidle⟩, broadcastFrame_eq]
    case broadcastEnd => rw [State.broadcastEnd, hline]

end
end
